-- ==== Sys2Proof/Word.lean ====
section
/-! DEFINITION. The two word types of the core (spec/10_state.md R32, spec/20_memory.md R70, R71). -/

namespace Sys2Proof

/-- An 8-bit value: a register half, a byte of memory, a byte of a port. -/
abbrev Byte := BitVec 8

/-- A 16-bit value: a register pair, an address, a port address. All arithmetic on it wraps (R72). -/
abbrev Word := BitVec 16

end Sys2Proof
end

