-- ==== Sys2Proof/Syntax.lean ====
section
/-! DEFINITION. The instructions: one constructor of `Instr` per row of spec/opcode_table.json, and the
operand codes of spec/10_state.md R39, R48, R49. Memory operands are spelt `M`: `ldMhlR` is LD (HL),r,
`ldAMnn` is LD A,(nn), `Mxyd` is (xy+d). -/

namespace Sys2Proof

/-- The 8-bit register codes 0 to 5 and 7 of R48; code 6 is not a register but memory at HL. -/
inductive R8 where
  | b | c | d | e | h | l | a
  deriving DecidableEq, Repr

/-- The register pairs `rp` of R49: loads, 16-bit arithmetic, INC and DEC. -/
inductive Rp where
  | bc | de | hl | sp
  deriving DecidableEq, Repr

/-- The register pairs `rp2` of R49: PUSH and POP. -/
inductive Rp2 where
  | bc | de | hl | af
  deriving DecidableEq, Repr

/-- The register pairs `pp` of R49: ADD xy,pp, whose code 2 names the index register itself. -/
inductive Pp where
  | bc | de | xy | sp
  deriving DecidableEq, Repr

/-- The index register a 0xDD (IX) or 0xFD (IY) prefix selects (R110). -/
inductive Xy where
  | ix | iy
  deriving DecidableEq, Repr

/-- The condition codes of R39, in the order of their 3-bit codes. -/
inductive Cond where
  | nz | z | nc | c | po | pe | p | m
  deriving DecidableEq, Repr

/-- The rotate and shift operations of R102, in the order of their 3-bit codes. -/
inductive RotOp where
  | rlc | rrc | rl | rr | sla | sra | sll | srl
  deriving DecidableEq, Repr

/-- The ALU operations of R102, in the order of their 3-bit codes. -/
inductive AluOp where
  | add | adc | sub | sbc | and | xor | or | cp
  deriving DecidableEq, Repr

/-- One constructor per row of spec/opcode_table.json. A comment gives the row's instruction as the spec
writes it, its `match` bytes and the rule of its meaning. -/
inductive Instr where
  -- primary table
  | nop  -- NOP: 00, R465
  | exAfAf  -- EX AF,AF': 08, R381
  | djnz (e : Byte)  -- DJNZ e: 1000, R606
  | jr (e : Byte)  -- JR e: 1800, R602
  | jrCc (cc : Cond) (e : Byte)  -- JR cc,e: 2000, R603
  | ldRpNn (p : Rp) (nn : Word)  -- LD rp,nn: 010000, R340
  | addHlRp (p : Rp)  -- ADD HL,rp: 09, R500
  | ldMbcA  -- LD (BC),A: 02, R311
  | ldMdeA  -- LD (DE),A: 12, R312
  | ldMnnHl (nn : Word)  -- LD (nn),HL: 220000, R345
  | ldMnnA (nn : Word)  -- LD (nn),A: 320000, R313
  | ldAMbc  -- LD A,(BC): 0A, R308
  | ldAMde  -- LD A,(DE): 1A, R309
  | ldHlMnn (nn : Word)  -- LD HL,(nn): 2A0000, R342
  | ldAMnn (nn : Word)  -- LD A,(nn): 3A0000, R310
  | incRp (p : Rp)  -- INC rp: 03, R504
  | decRp (p : Rp)  -- DEC rp: 0B, R506
  | incR (r : R8)  -- INC r: 04, R428
  | incMhl  -- INC (HL): 34, R429
  | decR (r : R8)  -- DEC r: 05, R431
  | decMhl  -- DEC (HL): 35, R432
  | ldRN (r : R8) (n : Byte)  -- LD r,n: 0600, R301
  | ldMhlN (n : Byte)  -- LD (HL),n: 3600, R306
  | rlca  -- RLCA: 07, R540
  | rrca  -- RRCA: 0F, R542
  | rla  -- RLA: 17, R541
  | rra  -- RRA: 1F, R543
  | daa  -- DAA: 27, R460
  | cpl  -- CPL: 2F, R461
  | scf  -- SCF: 37, R464
  | ccf  -- CCF: 3F, R463
  | halt  -- HALT: 76, R466
  | ldRR (r : R8) (r' : R8)  -- LD r,r': 40, R300
  | ldRMhl (r : R8)  -- LD r,(HL): 46, R302
  | ldMhlR (r : R8)  -- LD (HL),r: 70, R304
  | addAR (r : R8)  -- ADD A,r: 80, R420
  | addAMhl  -- ADD A,(HL): 86, R420
  | addAN (n : Byte)  -- ADD A,n: C600, R420
  | adcAR (r : R8)  -- ADC A,r: 88, R421
  | adcAMhl  -- ADC A,(HL): 8E, R421
  | adcAN (n : Byte)  -- ADC A,n: CE00, R421
  | subR (r : R8)  -- SUB r: 90, R422
  | subMhl  -- SUB (HL): 96, R422
  | subN (n : Byte)  -- SUB n: D600, R422
  | sbcAR (r : R8)  -- SBC A,r: 98, R423
  | sbcAMhl  -- SBC A,(HL): 9E, R423
  | sbcAN (n : Byte)  -- SBC A,n: DE00, R423
  | andR (r : R8)  -- AND r: A0, R424
  | andMhl  -- AND (HL): A6, R424
  | andN (n : Byte)  -- AND n: E600, R424
  | xorR (r : R8)  -- XOR r: A8, R425
  | xorMhl  -- XOR (HL): AE, R425
  | xorN (n : Byte)  -- XOR n: EE00, R425
  | orR (r : R8)  -- OR r: B0, R426
  | orMhl  -- OR (HL): B6, R426
  | orN (n : Byte)  -- OR n: F600, R426
  | cpR (r : R8)  -- CP r: B8, R427
  | cpMhl  -- CP (HL): BE, R427
  | cpN (n : Byte)  -- CP n: FE00, R427
  | retCc (cc : Cond)  -- RET cc: C0, R610
  | popRp2 (p : Rp2)  -- POP rp2: C1, R352
  | ret  -- RET: C9, R609
  | exx  -- EXX: D9, R382
  | jpHl  -- JP (HL): E9, R604
  | ldSpHl  -- LD SP,HL: F9, R348
  | jpCcNn (cc : Cond) (nn : Word)  -- JP cc,nn: C20000, R601
  | jpNn (nn : Word)  -- JP nn: C30000, R600
  | outMnA (n : Byte)  -- OUT (n),A: D300, R656
  | inAMn (n : Byte)  -- IN A,(n): DB00, R650
  | exMspHl  -- EX (SP),HL: E3, R383
  | exDeHl  -- EX DE,HL: EB, R380
  | di  -- DI: F3, R467
  | ei  -- EI: FB, R468
  | callCcNn (cc : Cond) (nn : Word)  -- CALL cc,nn: C40000, R608
  | pushRp2 (p : Rp2)  -- PUSH rp2: C5, R350
  | callNn (nn : Word)  -- CALL nn: CD0000, R607
  | rstP (p : BitVec 3)  -- RST p: C7, R613
  -- CB table (R108)
  | rlcR (r : R8)  -- RLC r: CB00, R544
  | rlcMhl  -- RLC (HL): CB06, R544
  | rrcR (r : R8)  -- RRC r: CB08, R545
  | rrcMhl  -- RRC (HL): CB0E, R545
  | rlR (r : R8)  -- RL r: CB10, R546
  | rlMhl  -- RL (HL): CB16, R546
  | rrR (r : R8)  -- RR r: CB18, R547
  | rrMhl  -- RR (HL): CB1E, R547
  | slaR (r : R8)  -- SLA r: CB20, R548
  | slaMhl  -- SLA (HL): CB26, R548
  | sraR (r : R8)  -- SRA r: CB28, R549
  | sraMhl  -- SRA (HL): CB2E, R549
  | sllR (r : R8)  -- SLL r: CB30, R550
  | sllMhl  -- SLL (HL): CB36, R550
  | srlR (r : R8)  -- SRL r: CB38, R551
  | srlMhl  -- SRL (HL): CB3E, R551
  | bitBR (b : BitVec 3) (r : R8)  -- BIT b,r: CB40, R555
  | bitBMhl (b : BitVec 3)  -- BIT b,(HL): CB46, R556
  | resBR (b : BitVec 3) (r : R8)  -- RES b,r: CB80, R558
  | resBMhl (b : BitVec 3)  -- RES b,(HL): CB86, R558
  | setBR (b : BitVec 3) (r : R8)  -- SET b,r: CBC0, R560
  | setBMhl (b : BitVec 3)  -- SET b,(HL): CBC6, R560
  -- ED table (R109)
  | illegalEd (op : Byte)  -- (illegal ED opcode): ED00, R115
  | inRMc (r : R8)  -- IN r,(C): ED40, R651
  | illegalEd70  -- (illegal ED 70): ED70, R115
  | outMcR (r : R8)  -- OUT (C),r: ED41, R657
  | illegalEd71  -- (illegal ED 71): ED71, R115
  | sbcHlRp (p : Rp)  -- SBC HL,rp: ED42, R502
  | adcHlRp (p : Rp)  -- ADC HL,rp: ED4A, R501
  | ldMnnRp (p : Rp) (nn : Word)  -- LD (nn),rp: ED430000, R346
  | ldRpMnn (p : Rp) (nn : Word)  -- LD rp,(nn): ED4B0000, R343
  | neg  -- NEG: ED44, R462
  | retn  -- RETN: ED45, R612
  | reti  -- RETI: ED4D, R611
  | im0  -- IM 0: ED46, R469
  | im1  -- IM 1: ED56, R470
  | im2  -- IM 2: ED5E, R471
  | ldIA  -- LD I,A: ED47, R316
  | ldRA  -- LD R,A: ED4F, R317
  | ldAI  -- LD A,I: ED57, R314
  | ldAR  -- LD A,R: ED5F, R315
  | rrd  -- RRD: ED67, R554
  | rld  -- RLD: ED6F, R553
  | ldi  -- LDI: EDA0, R386
  | cpi  -- CPI: EDA1, R390
  | ini  -- INI: EDA2, R652
  | outi  -- OUTI: EDA3, R658
  | ldd  -- LDD: EDA8, R388
  | cpd  -- CPD: EDA9, R392
  | ind  -- IND: EDAA, R654
  | outd  -- OUTD: EDAB, R660
  | ldir  -- LDIR: EDB0, R387
  | cpir  -- CPIR: EDB1, R391
  | inir  -- INIR: EDB2, R653
  | otir  -- OTIR: EDB3, R659
  | lddr  -- LDDR: EDB8, R389
  | cpdr  -- CPDR: EDB9, R393
  | indr  -- INDR: EDBA, R655
  | otdr  -- OTDR: EDBB, R661
  -- DD and FD tables (R110)
  | xyFallback (x : Xy) (op : Byte)  -- (DD/FD fallback) xy-prefix + unprefixed op: DD00, R110
  | addXyPp (x : Xy) (p : Pp)  -- ADD xy,pp: DD09, R503
  | ldXyNn (x : Xy) (nn : Word)  -- LD xy,nn: DD210000, R341
  | ldMnnXy (x : Xy) (nn : Word)  -- LD (nn),xy: DD220000, R347
  | incXy (x : Xy)  -- INC xy: DD23, R505
  | decXy (x : Xy)  -- DEC xy: DD2B, R507
  | ldXyMnn (x : Xy) (nn : Word)  -- LD xy,(nn): DD2A0000, R344
  | incXyh (x : Xy)  -- INC xyH: DD24, R428
  | decXyh (x : Xy)  -- DEC xyH: DD25, R431
  | incXyl (x : Xy)  -- INC xyL: DD2C, R428
  | decXyl (x : Xy)  -- DEC xyL: DD2D, R431
  | ldXyhN (x : Xy) (n : Byte)  -- LD xyH,n: DD2600, R319
  | ldXylN (x : Xy) (n : Byte)  -- LD xyL,n: DD2E00, R319
  | incMxyd (x : Xy) (d : Byte)  -- INC (xy+d): DD3400, R430
  | decMxyd (x : Xy) (d : Byte)  -- DEC (xy+d): DD3500, R433
  | ldMxydN (x : Xy) (d : Byte) (n : Byte)  -- LD (xy+d),n: DD360000, R307
  | ldBXyh (x : Xy)  -- LD B,xyH: DD44, R318
  | ldBXyl (x : Xy)  -- LD B,xyL: DD45, R318
  | ldBMxyd (x : Xy) (d : Byte)  -- LD B,(xy+d): DD4600, R303
  | ldCXyh (x : Xy)  -- LD C,xyH: DD4C, R318
  | ldCXyl (x : Xy)  -- LD C,xyL: DD4D, R318
  | ldCMxyd (x : Xy) (d : Byte)  -- LD C,(xy+d): DD4E00, R303
  | ldDXyh (x : Xy)  -- LD D,xyH: DD54, R318
  | ldDXyl (x : Xy)  -- LD D,xyL: DD55, R318
  | ldDMxyd (x : Xy) (d : Byte)  -- LD D,(xy+d): DD5600, R303
  | ldEXyh (x : Xy)  -- LD E,xyH: DD5C, R318
  | ldEXyl (x : Xy)  -- LD E,xyL: DD5D, R318
  | ldEMxyd (x : Xy) (d : Byte)  -- LD E,(xy+d): DD5E00, R303
  | ldXyhB (x : Xy)  -- LD xyH,B: DD60, R318
  | ldXyhC (x : Xy)  -- LD xyH,C: DD61, R318
  | ldXyhD (x : Xy)  -- LD xyH,D: DD62, R318
  | ldXyhE (x : Xy)  -- LD xyH,E: DD63, R318
  | ldXyhXyh (x : Xy)  -- LD xyH,xyH: DD64, R318
  | ldXyhXyl (x : Xy)  -- LD xyH,xyL: DD65, R318
  | ldHMxyd (x : Xy) (d : Byte)  -- LD H,(xy+d): DD6600, R303
  | ldXyhA (x : Xy)  -- LD xyH,A: DD67, R318
  | ldXylB (x : Xy)  -- LD xyL,B: DD68, R318
  | ldXylC (x : Xy)  -- LD xyL,C: DD69, R318
  | ldXylD (x : Xy)  -- LD xyL,D: DD6A, R318
  | ldXylE (x : Xy)  -- LD xyL,E: DD6B, R318
  | ldXylXyh (x : Xy)  -- LD xyL,xyH: DD6C, R318
  | ldXylXyl (x : Xy)  -- LD xyL,xyL: DD6D, R318
  | ldLMxyd (x : Xy) (d : Byte)  -- LD L,(xy+d): DD6E00, R303
  | ldXylA (x : Xy)  -- LD xyL,A: DD6F, R318
  | ldMxydB (x : Xy) (d : Byte)  -- LD (xy+d),B: DD7000, R305
  | ldMxydC (x : Xy) (d : Byte)  -- LD (xy+d),C: DD7100, R305
  | ldMxydD (x : Xy) (d : Byte)  -- LD (xy+d),D: DD7200, R305
  | ldMxydE (x : Xy) (d : Byte)  -- LD (xy+d),E: DD7300, R305
  | ldMxydH (x : Xy) (d : Byte)  -- LD (xy+d),H: DD7400, R305
  | ldMxydL (x : Xy) (d : Byte)  -- LD (xy+d),L: DD7500, R305
  | ldMxydA (x : Xy) (d : Byte)  -- LD (xy+d),A: DD7700, R305
  | ldAXyh (x : Xy)  -- LD A,xyH: DD7C, R318
  | ldAXyl (x : Xy)  -- LD A,xyL: DD7D, R318
  | ldAMxyd (x : Xy) (d : Byte)  -- LD A,(xy+d): DD7E00, R303
  | addAXyh (x : Xy)  -- ADD A,xyH: DD84, R420
  | addAXyl (x : Xy)  -- ADD A,xyL: DD85, R420
  | addAMxyd (x : Xy) (d : Byte)  -- ADD A,(xy+d): DD8600, R420
  | adcAXyh (x : Xy)  -- ADC A,xyH: DD8C, R421
  | adcAXyl (x : Xy)  -- ADC A,xyL: DD8D, R421
  | adcAMxyd (x : Xy) (d : Byte)  -- ADC A,(xy+d): DD8E00, R421
  | subXyh (x : Xy)  -- SUB xyH: DD94, R422
  | subXyl (x : Xy)  -- SUB xyL: DD95, R422
  | subMxyd (x : Xy) (d : Byte)  -- SUB (xy+d): DD9600, R422
  | sbcAXyh (x : Xy)  -- SBC A,xyH: DD9C, R423
  | sbcAXyl (x : Xy)  -- SBC A,xyL: DD9D, R423
  | sbcAMxyd (x : Xy) (d : Byte)  -- SBC A,(xy+d): DD9E00, R423
  | andXyh (x : Xy)  -- AND xyH: DDA4, R424
  | andXyl (x : Xy)  -- AND xyL: DDA5, R424
  | andMxyd (x : Xy) (d : Byte)  -- AND (xy+d): DDA600, R424
  | xorXyh (x : Xy)  -- XOR xyH: DDAC, R425
  | xorXyl (x : Xy)  -- XOR xyL: DDAD, R425
  | xorMxyd (x : Xy) (d : Byte)  -- XOR (xy+d): DDAE00, R425
  | orXyh (x : Xy)  -- OR xyH: DDB4, R426
  | orXyl (x : Xy)  -- OR xyL: DDB5, R426
  | orMxyd (x : Xy) (d : Byte)  -- OR (xy+d): DDB600, R426
  | cpXyh (x : Xy)  -- CP xyH: DDBC, R427
  | cpXyl (x : Xy)  -- CP xyL: DDBD, R427
  | cpMxyd (x : Xy) (d : Byte)  -- CP (xy+d): DDBE00, R427
  | popXy (x : Xy)  -- POP xy: DDE1, R353
  | exMspXy (x : Xy)  -- EX (SP),xy: DDE3, R384
  | pushXy (x : Xy)  -- PUSH xy: DDE5, R351
  | jpXy (x : Xy)  -- JP (xy): DDE9, R605
  | ldSpXy (x : Xy)  -- LD SP,xy: DDF9, R349
  -- DDCB and FDCB tables (R111)
  | rlcMxydR (x : Xy) (d : Byte) (r : R8)  -- RLC (xy+d),r: DDCB0000, R552
  | rlcMxyd (x : Xy) (d : Byte)  -- RLC (xy+d): DDCB0006, R552
  | rrcMxydR (x : Xy) (d : Byte) (r : R8)  -- RRC (xy+d),r: DDCB0008, R552
  | rrcMxyd (x : Xy) (d : Byte)  -- RRC (xy+d): DDCB000E, R552
  | rlMxydR (x : Xy) (d : Byte) (r : R8)  -- RL (xy+d),r: DDCB0010, R552
  | rlMxyd (x : Xy) (d : Byte)  -- RL (xy+d): DDCB0016, R552
  | rrMxydR (x : Xy) (d : Byte) (r : R8)  -- RR (xy+d),r: DDCB0018, R552
  | rrMxyd (x : Xy) (d : Byte)  -- RR (xy+d): DDCB001E, R552
  | slaMxydR (x : Xy) (d : Byte) (r : R8)  -- SLA (xy+d),r: DDCB0020, R552
  | slaMxyd (x : Xy) (d : Byte)  -- SLA (xy+d): DDCB0026, R552
  | sraMxydR (x : Xy) (d : Byte) (r : R8)  -- SRA (xy+d),r: DDCB0028, R552
  | sraMxyd (x : Xy) (d : Byte)  -- SRA (xy+d): DDCB002E, R552
  | sllMxydR (x : Xy) (d : Byte) (r : R8)  -- SLL (xy+d),r: DDCB0030, R552
  | sllMxyd (x : Xy) (d : Byte)  -- SLL (xy+d): DDCB0036, R552
  | srlMxydR (x : Xy) (d : Byte) (r : R8)  -- SRL (xy+d),r: DDCB0038, R552
  | srlMxyd (x : Xy) (d : Byte)  -- SRL (xy+d): DDCB003E, R552
  | bitBMxyd (x : Xy) (d : Byte) (b : BitVec 3) (z : BitVec 3)  -- BIT b,(xy+d): DDCB0040, R557
  | resBMxydR (x : Xy) (d : Byte) (b : BitVec 3) (r : R8)  -- RES b,(xy+d),r: DDCB0080, R559
  | resBMxyd (x : Xy) (d : Byte) (b : BitVec 3)  -- RES b,(xy+d): DDCB0086, R559
  | setBMxydR (x : Xy) (d : Byte) (b : BitVec 3) (r : R8)  -- SET b,(xy+d),r: DDCB00C0, R561
  | setBMxyd (x : Xy) (d : Byte) (b : BitVec 3)  -- SET b,(xy+d): DDCB00C6, R561
  deriving DecidableEq, Repr

end Sys2Proof
end

