-- ==== Sys2Proof/WellFormed.lean ====
section
/-! DEFINITION. Which terms of `Instr` are instructions. The operand types admit nothing the encoding
excludes but for three rows, and each of the three has its check here. -/

namespace Sys2Proof

/-- JR has a 2-bit condition field that names the first four conditions only (R39, R603). -/
def Cond.isJrCond : Cond → Bool
  | .nz | .z | .nc | .c => true
  | .po | .pe | .p | .m => false

/-- The 58 recognized sub-opcodes of the ED table, as R109 lists them. -/
def edOpcodes : List Byte :=
  [0x40, 0x41, 0x42, 0x43, 0x44, 0x45, 0x46, 0x47, 0x48, 0x49, 0x4A, 0x4B, 0x4D, 0x4F, 0x50, 0x51] ++
  [0x52, 0x53, 0x56, 0x57, 0x58, 0x59, 0x5A, 0x5B, 0x5E, 0x5F, 0x60, 0x61, 0x62, 0x63, 0x67, 0x68] ++
  [0x69, 0x6A, 0x6B, 0x6F, 0x72, 0x73, 0x78, 0x79, 0x7A, 0x7B, 0xA0, 0xA1, 0xA2, 0xA3, 0xA8, 0xA9] ++
  [0xAA, 0xAB, 0xB0, 0xB1, 0xB2, 0xB3, 0xB8, 0xB9, 0xBA, 0xBB]

/-- The 170 second bytes after DD or FD with no indexed form, as R110 lists them. -/
def fallbackOpcodes : List Byte :=
  [0x00, 0x01, 0x02, 0x03, 0x04, 0x05, 0x06, 0x07, 0x08, 0x0A, 0x0B, 0x0C, 0x0D, 0x0E, 0x0F, 0x10] ++
  [0x11, 0x12, 0x13, 0x14, 0x15, 0x16, 0x17, 0x18, 0x1A, 0x1B, 0x1C, 0x1D, 0x1E, 0x1F, 0x20, 0x27] ++
  [0x28, 0x2F, 0x30, 0x31, 0x32, 0x33, 0x37, 0x38, 0x3A, 0x3B, 0x3C, 0x3D, 0x3E, 0x3F, 0x40, 0x41] ++
  [0x42, 0x43, 0x47, 0x48, 0x49, 0x4A, 0x4B, 0x4F, 0x50, 0x51, 0x52, 0x53, 0x57, 0x58, 0x59, 0x5A] ++
  [0x5B, 0x5F, 0x76, 0x78, 0x79, 0x7A, 0x7B, 0x7F, 0x80, 0x81, 0x82, 0x83, 0x87, 0x88, 0x89, 0x8A] ++
  [0x8B, 0x8F, 0x90, 0x91, 0x92, 0x93, 0x97, 0x98, 0x99, 0x9A, 0x9B, 0x9F, 0xA0, 0xA1, 0xA2, 0xA3] ++
  [0xA7, 0xA8, 0xA9, 0xAA, 0xAB, 0xAF, 0xB0, 0xB1, 0xB2, 0xB3, 0xB7, 0xB8, 0xB9, 0xBA, 0xBB, 0xBF] ++
  [0xC0, 0xC1, 0xC2, 0xC3, 0xC4, 0xC5, 0xC6, 0xC7, 0xC8, 0xC9, 0xCA, 0xCC, 0xCD, 0xCE, 0xCF, 0xD0] ++
  [0xD1, 0xD2, 0xD3, 0xD4, 0xD5, 0xD6, 0xD7, 0xD8, 0xD9, 0xDA, 0xDB, 0xDC, 0xDD, 0xDE, 0xDF, 0xE0] ++
  [0xE2, 0xE4, 0xE6, 0xE7, 0xE8, 0xEA, 0xEB, 0xEC, 0xED, 0xEE, 0xEF, 0xF0, 0xF1, 0xF2, 0xF3, 0xF4] ++
  [0xF5, 0xF6, 0xF7, 0xF8, 0xFA, 0xFB, 0xFC, 0xFD, 0xFE, 0xFF]

/-- The ED sub-opcode stands in the table's general illegal row: it is not recognized (R109) and has no
illegal row of its own (0x70 and 0x71 have). -/
def isIllegalEd (op : Byte) : Bool :=
  !edOpcodes.contains op && op != 0x70 && op != 0x71

/-- A well-formed instruction: one the encoding tables can spell (R107 to R111). -/
def Instr.wellFormed : Instr → Bool
  | .jrCc cc _ => cc.isJrCond
  | .illegalEd op => isIllegalEd op
  | .xyFallback _ op => fallbackOpcodes.contains op
  | .nop | .exAfAf | .djnz _ | .jr _ | .ldRpNn _ _ | .addHlRp _ | .ldMbcA | .ldMdeA | .ldMnnHl _ | .ldMnnA _
  | .ldAMbc | .ldAMde | .ldHlMnn _ | .ldAMnn _ | .incRp _ | .decRp _ | .incR _ | .incMhl | .decR _ | .decMhl
  | .ldRN _ _ | .ldMhlN _ | .rlca | .rrca | .rla | .rra | .daa | .cpl | .scf | .ccf | .halt | .ldRR _ _ | .ldRMhl _
  | .ldMhlR _ | .addAR _ | .addAMhl | .addAN _ | .adcAR _ | .adcAMhl | .adcAN _ | .subR _ | .subMhl | .subN _
  | .sbcAR _ | .sbcAMhl | .sbcAN _ | .andR _ | .andMhl | .andN _ | .xorR _ | .xorMhl | .xorN _ | .orR _ | .orMhl
  | .orN _ | .cpR _ | .cpMhl | .cpN _ | .retCc _ | .popRp2 _ | .ret | .exx | .jpHl | .ldSpHl | .jpCcNn _ _
  | .jpNn _ | .outMnA _ | .inAMn _ | .exMspHl | .exDeHl | .di | .ei | .callCcNn _ _ | .pushRp2 _ | .callNn _
  | .rstP _ | .rlcR _ | .rlcMhl | .rrcR _ | .rrcMhl | .rlR _ | .rlMhl | .rrR _ | .rrMhl | .slaR _ | .slaMhl
  | .sraR _ | .sraMhl | .sllR _ | .sllMhl | .srlR _ | .srlMhl | .bitBR _ _ | .bitBMhl _ | .resBR _ _ | .resBMhl _
  | .setBR _ _ | .setBMhl _ | .inRMc _ | .illegalEd70 | .outMcR _ | .illegalEd71 | .sbcHlRp _ | .adcHlRp _
  | .ldMnnRp _ _ | .ldRpMnn _ _ | .neg | .retn | .reti | .im0 | .im1 | .im2 | .ldIA | .ldRA | .ldAI | .ldAR | .rrd
  | .rld | .ldi | .cpi | .ini | .outi | .ldd | .cpd | .ind | .outd | .ldir | .cpir | .inir | .otir | .lddr | .cpdr
  | .indr | .otdr | .addXyPp _ _ | .ldXyNn _ _ | .ldMnnXy _ _ | .incXy _ | .decXy _ | .ldXyMnn _ _ | .incXyh _
  | .decXyh _ | .incXyl _ | .decXyl _ | .ldXyhN _ _ | .ldXylN _ _ | .incMxyd _ _ | .decMxyd _ _ | .ldMxydN _ _ _
  | .ldBXyh _ | .ldBXyl _ | .ldBMxyd _ _ | .ldCXyh _ | .ldCXyl _ | .ldCMxyd _ _ | .ldDXyh _ | .ldDXyl _
  | .ldDMxyd _ _ | .ldEXyh _ | .ldEXyl _ | .ldEMxyd _ _ | .ldXyhB _ | .ldXyhC _ | .ldXyhD _ | .ldXyhE _
  | .ldXyhXyh _ | .ldXyhXyl _ | .ldHMxyd _ _ | .ldXyhA _ | .ldXylB _ | .ldXylC _ | .ldXylD _ | .ldXylE _
  | .ldXylXyh _ | .ldXylXyl _ | .ldLMxyd _ _ | .ldXylA _ | .ldMxydB _ _ | .ldMxydC _ _ | .ldMxydD _ _
  | .ldMxydE _ _ | .ldMxydH _ _ | .ldMxydL _ _ | .ldMxydA _ _ | .ldAXyh _ | .ldAXyl _ | .ldAMxyd _ _ | .addAXyh _
  | .addAXyl _ | .addAMxyd _ _ | .adcAXyh _ | .adcAXyl _ | .adcAMxyd _ _ | .subXyh _ | .subXyl _ | .subMxyd _ _
  | .sbcAXyh _ | .sbcAXyl _ | .sbcAMxyd _ _ | .andXyh _ | .andXyl _ | .andMxyd _ _ | .xorXyh _ | .xorXyl _
  | .xorMxyd _ _ | .orXyh _ | .orXyl _ | .orMxyd _ _ | .cpXyh _ | .cpXyl _ | .cpMxyd _ _ | .popXy _ | .exMspXy _
  | .pushXy _ | .jpXy _ | .ldSpXy _ | .rlcMxydR _ _ _ | .rlcMxyd _ _ | .rrcMxydR _ _ _ | .rrcMxyd _ _
  | .rlMxydR _ _ _ | .rlMxyd _ _ | .rrMxydR _ _ _ | .rrMxyd _ _ | .slaMxydR _ _ _ | .slaMxyd _ _ | .sraMxydR _ _ _
  | .sraMxyd _ _ | .sllMxydR _ _ _ | .sllMxyd _ _ | .srlMxydR _ _ _ | .srlMxyd _ _ | .bitBMxyd _ _ _ _
  | .resBMxydR _ _ _ _ | .resBMxyd _ _ _ | .setBMxydR _ _ _ _ | .setBMxyd _ _ _ => true

end Sys2Proof
end

