-- ==== Sys2Proof/Decode.lean ====
section
/-! DEFINITION. The decoder, total on any bytes, and after it the encoder, both from spec/30_encoding.md
(R100 to R111, R118) and the operand codes of spec/10_state.md (R39, R48, R49). The decoder works by the
fields x, y, z, p, q of R101; the encoder writes each instruction's bits as its rule spells them. -/

namespace Sys2Proof

-- Byte order and fields

/-- `hi:lo` (R10): a 16-bit value from its two bytes. -/
def wordOf (hi lo : Byte) : Word := hi ++ lo

/-- Bits 15..8 of a 16-bit value (R9). -/
def hiByte (w : Word) : Byte := w.extractLsb' 8 8

/-- Bits 7..0 of a 16-bit value (R9). -/
def loByte (w : Word) : Byte := w.extractLsb' 0 8

/-- Field x = o[7:6] (R101). -/
def fieldX (o : Byte) : Nat := (o.extractLsb' 6 2).toNat
/-- Field y = o[5:3] (R101). -/
def fieldY (o : Byte) : BitVec 3 := o.extractLsb' 3 3
/-- Field z = o[2:0] (R101). -/
def fieldZ (o : Byte) : BitVec 3 := o.extractLsb' 0 3
/-- Field p = o[5:4] (R101). -/
def fieldP (o : Byte) : BitVec 2 := o.extractLsb' 4 2
/-- Field q = o[3] (R101). -/
def fieldQ (o : Byte) : Bool := o.getLsbD 3

-- Operand codes

/-- The register a 3-bit code names; code 6 is memory, not a register (R48). -/
def R8.ofCode (k : BitVec 3) : Option R8 :=
  match k.toNat with
  | 0 => some .b | 1 => some .c | 2 => some .d | 3 => some .e
  | 4 => some .h | 5 => some .l | 6 => none | _ => some .a

/-- The pair a 2-bit `rp` code names (R49). -/
def Rp.ofCode (k : BitVec 2) : Rp :=
  match k.toNat with | 0 => .bc | 1 => .de | 2 => .hl | _ => .sp

/-- The pair a 2-bit `rp2` code names (R49). -/
def Rp2.ofCode (k : BitVec 2) : Rp2 :=
  match k.toNat with | 0 => .bc | 1 => .de | 2 => .hl | _ => .af

/-- The pair a 2-bit `pp` code names (R49). -/
def Pp.ofCode (k : BitVec 2) : Pp :=
  match k.toNat with | 0 => .bc | 1 => .de | 2 => .xy | _ => .sp

/-- The condition a 3-bit code names (R39). -/
def Cond.ofCode (k : BitVec 3) : Cond :=
  match k.toNat with
  | 0 => .nz | 1 => .z | 2 => .nc | 3 => .c | 4 => .po | 5 => .pe | 6 => .p | _ => .m

/-- The rotate or shift a 3-bit code names (R102). -/
def RotOp.ofCode (k : BitVec 3) : RotOp :=
  match k.toNat with
  | 0 => .rlc | 1 => .rrc | 2 => .rl | 3 => .rr | 4 => .sla | 5 => .sra | 6 => .sll | _ => .srl

/-- The ALU operation a 3-bit code names (R102). -/
def AluOp.ofCode (k : BitVec 3) : AluOp :=
  match k.toNat with
  | 0 => .add | 1 => .adc | 2 => .sub | 3 => .sbc | 4 => .and | 5 => .xor | 6 => .or | _ => .cp

-- The instruction of an operation code and an operand form (the tables' rows that share a format)

/-- ALU operation on a register (R420 to R427). -/
def aluR : AluOp → R8 → Instr
  | .add, r => .addAR r | .adc, r => .adcAR r | .sub, r => .subR r | .sbc, r => .sbcAR r | .and, r => .andR r
  | .xor, r => .xorR r | .or, r => .orR r | .cp, r => .cpR r

/-- ALU operation on an immediate. -/
def aluN : AluOp → Byte → Instr
  | .add, n => .addAN n | .adc, n => .adcAN n | .sub, n => .subN n | .sbc, n => .sbcAN n | .and, n => .andN n
  | .xor, n => .xorN n | .or, n => .orN n | .cp, n => .cpN n

/-- ALU operation on (HL). -/
def aluMhl : AluOp → Instr
  | .add => .addAMhl | .adc => .adcAMhl | .sub => .subMhl | .sbc => .sbcAMhl | .and => .andMhl
  | .xor => .xorMhl | .or => .orMhl | .cp => .cpMhl

/-- ALU operation on xyH. -/
def aluXyh : AluOp → Xy → Instr
  | .add, x => .addAXyh x | .adc, x => .adcAXyh x | .sub, x => .subXyh x | .sbc, x => .sbcAXyh x
  | .and, x => .andXyh x | .xor, x => .xorXyh x | .or, x => .orXyh x | .cp, x => .cpXyh x

/-- ALU operation on xyL. -/
def aluXyl : AluOp → Xy → Instr
  | .add, x => .addAXyl x | .adc, x => .adcAXyl x | .sub, x => .subXyl x | .sbc, x => .sbcAXyl x
  | .and, x => .andXyl x | .xor, x => .xorXyl x | .or, x => .orXyl x | .cp, x => .cpXyl x

/-- ALU operation on (xy+d). -/
def aluMxyd : AluOp → Xy → Byte → Instr
  | .add, x, d => .addAMxyd x d | .adc, x, d => .adcAMxyd x d | .sub, x, d => .subMxyd x d
  | .sbc, x, d => .sbcAMxyd x d | .and, x, d => .andMxyd x d | .xor, x, d => .xorMxyd x d
  | .or, x, d => .orMxyd x d | .cp, x, d => .cpMxyd x d

/-- Rotate or shift of a register (R544 to R551). -/
def rotR : RotOp → R8 → Instr
  | .rlc, r => .rlcR r | .rrc, r => .rrcR r | .rl, r => .rlR r | .rr, r => .rrR r | .sla, r => .slaR r
  | .sra, r => .sraR r | .sll, r => .sllR r | .srl, r => .srlR r

/-- Rotate or shift of (HL). -/
def rotMhl : RotOp → Instr
  | .rlc => .rlcMhl | .rrc => .rrcMhl | .rl => .rlMhl | .rr => .rrMhl | .sla => .slaMhl | .sra => .sraMhl
  | .sll => .sllMhl | .srl => .srlMhl

/-- Rotate or shift of (xy+d) with the register copy (R552). -/
def rotMxydR : RotOp → Xy → Byte → R8 → Instr
  | .rlc, x, d, r => .rlcMxydR x d r | .rrc, x, d, r => .rrcMxydR x d r | .rl, x, d, r => .rlMxydR x d r
  | .rr, x, d, r => .rrMxydR x d r | .sla, x, d, r => .slaMxydR x d r | .sra, x, d, r => .sraMxydR x d r
  | .sll, x, d, r => .sllMxydR x d r | .srl, x, d, r => .srlMxydR x d r

/-- Rotate or shift of (xy+d) without a copy (R552). -/
def rotMxyd : RotOp → Xy → Byte → Instr
  | .rlc, x, d => .rlcMxyd x d | .rrc, x, d => .rrcMxyd x d | .rl, x, d => .rlMxyd x d
  | .rr, x, d => .rrMxyd x d | .sla, x, d => .slaMxyd x d | .sra, x, d => .sraMxyd x d
  | .sll, x, d => .sllMxyd x d | .srl, x, d => .srlMxyd x d

/-- LD r,(xy+d) (R303): H and L name themselves (R124). -/
def ldRMxyd : R8 → Xy → Byte → Instr
  | .b, x, d => .ldBMxyd x d | .c, x, d => .ldCMxyd x d | .d, x, d => .ldDMxyd x d | .e, x, d => .ldEMxyd x d
  | .h, x, d => .ldHMxyd x d | .l, x, d => .ldLMxyd x d | .a, x, d => .ldAMxyd x d

/-- LD (xy+d),r (R305): H and L name themselves (R124). -/
def ldMxydR : R8 → Xy → Byte → Instr
  | .b, x, d => .ldMxydB x d | .c, x, d => .ldMxydC x d | .d, x, d => .ldMxydD x d | .e, x, d => .ldMxydE x d
  | .h, x, d => .ldMxydH x d | .l, x, d => .ldMxydL x d | .a, x, d => .ldMxydA x d

/-- LD with index halves (R318): codes 4 and 5 are xyH and xyL, and one of the two operands is a half. -/
def ldHalves (x : Xy) (y z : BitVec 3) : Option Instr :=
  match y.toNat, z.toNat with
  | 0, 4 => some (.ldBXyh x) | 0, 5 => some (.ldBXyl x) | 1, 4 => some (.ldCXyh x) | 1, 5 => some (.ldCXyl x)
  | 2, 4 => some (.ldDXyh x) | 2, 5 => some (.ldDXyl x) | 3, 4 => some (.ldEXyh x) | 3, 5 => some (.ldEXyl x)
  | 4, 0 => some (.ldXyhB x) | 4, 1 => some (.ldXyhC x) | 4, 2 => some (.ldXyhD x) | 4, 3 => some (.ldXyhE x)
  | 4, 4 => some (.ldXyhXyh x) | 4, 5 => some (.ldXyhXyl x) | 4, 7 => some (.ldXyhA x)
  | 5, 0 => some (.ldXylB x) | 5, 1 => some (.ldXylC x) | 5, 2 => some (.ldXylD x) | 5, 3 => some (.ldXylE x)
  | 5, 4 => some (.ldXylXyh x) | 5, 5 => some (.ldXylXyl x) | 5, 7 => some (.ldXylA x)
  | 7, 4 => some (.ldAXyh x) | 7, 5 => some (.ldAXyl x) | _, _ => none

-- The decoder: an instruction and its length in bytes

/-- The byte after 0xCB (R108). All 256 are defined. -/
def decodeCb (op : Byte) : Instr × Nat :=
  match fieldX op, R8.ofCode (fieldZ op) with
  | 0, some r => (rotR (RotOp.ofCode (fieldY op)) r, 2)
  | 0, none => (rotMhl (RotOp.ofCode (fieldY op)), 2)
  | 1, some r => (.bitBR (fieldY op) r, 2)
  | 1, none => (.bitBMhl (fieldY op), 2)
  | 2, some r => (.resBR (fieldY op) r, 2)
  | 2, none => (.resBMhl (fieldY op), 2)
  | _, some r => (.setBR (fieldY op) r, 2)
  | _, none => (.setBMhl (fieldY op), 2)

/-- An ED sub-opcode that is not recognized (R115): it decodes to its illegal row. -/
def decodeIllegalEd (op : Byte) : Instr × Nat := (.illegalEd op, 2)

/-- The byte after 0xED and the two bytes behind it (R109, R115). -/
def decodeEd (op lo hi : Byte) : Instr × Nat :=
  let y := (fieldY op).toNat
  let z := (fieldZ op).toNat
  match fieldX op with
  | 1 =>
    match z with
    | 0 => match R8.ofCode (fieldY op) with
      | some r => (.inRMc r, 2)
      | none => (.illegalEd70, 2)
    | 1 => match R8.ofCode (fieldY op) with
      | some r => (.outMcR r, 2)
      | none => (.illegalEd71, 2)
    | 2 => if fieldQ op then (.adcHlRp (Rp.ofCode (fieldP op)), 2) else (.sbcHlRp (Rp.ofCode (fieldP op)), 2)
    | 3 =>
      if fieldQ op then (.ldRpMnn (Rp.ofCode (fieldP op)) (wordOf hi lo), 4)
      else (.ldMnnRp (Rp.ofCode (fieldP op)) (wordOf hi lo), 4)
    | 4 => match y with
      | 0 => (.neg, 2)
      | _ => decodeIllegalEd op
    | 5 => match y with
      | 0 => (.retn, 2)
      | 1 => (.reti, 2)
      | _ => decodeIllegalEd op
    | 6 => match y with
      | 0 => (.im0, 2)
      | 2 => (.im1, 2)
      | 3 => (.im2, 2)
      | _ => decodeIllegalEd op
    | _ => match y with
      | 0 => (.ldIA, 2)
      | 1 => (.ldRA, 2)
      | 2 => (.ldAI, 2)
      | 3 => (.ldAR, 2)
      | 4 => (.rrd, 2)
      | 5 => (.rld, 2)
      | _ => decodeIllegalEd op
  | 2 =>
    match y, z with
    | 4, 0 => (.ldi, 2) | 4, 1 => (.cpi, 2) | 4, 2 => (.ini, 2) | 4, 3 => (.outi, 2)
    | 5, 0 => (.ldd, 2) | 5, 1 => (.cpd, 2) | 5, 2 => (.ind, 2) | 5, 3 => (.outd, 2)
    | 6, 0 => (.ldir, 2) | 6, 1 => (.cpir, 2) | 6, 2 => (.inir, 2) | 6, 3 => (.otir, 2)
    | 7, 0 => (.lddr, 2) | 7, 1 => (.cpdr, 2) | 7, 2 => (.indr, 2) | 7, 3 => (.otdr, 2)
    | _, _ => decodeIllegalEd op
  | _ => decodeIllegalEd op

/-- The displacement and the last byte after DD CB or FD CB (R111). All 256 last bytes are defined. -/
def decodeXyCb (x : Xy) (d op : Byte) : Instr × Nat :=
  match fieldX op, R8.ofCode (fieldZ op) with
  | 0, some r => (rotMxydR (RotOp.ofCode (fieldY op)) x d r, 4)
  | 0, none => (rotMxyd (RotOp.ofCode (fieldY op)) x d, 4)
  | 1, _ => (.bitBMxyd x d (fieldY op) (fieldZ op), 4)
  | 2, some r => (.resBMxydR x d (fieldY op) r, 4)
  | 2, none => (.resBMxyd x d (fieldY op), 4)
  | _, some r => (.setBMxydR x d (fieldY op) r, 4)
  | _, none => (.setBMxyd x d (fieldY op), 4)

/-- The indexed form the byte after DD or FD selects, if it has one (R110, R123, R124). -/
def decodeIndexed (x : Xy) (op b2 b3 : Byte) : Option (Instr × Nat) :=
  let y := (fieldY op).toNat
  let z := (fieldZ op).toNat
  match fieldX op with
  | 0 =>
    match y, z with
    | 1, 1 | 3, 1 | 5, 1 | 7, 1 => some (.addXyPp x (Pp.ofCode (fieldP op)), 2)
    | 4, 1 => some (.ldXyNn x (wordOf b3 b2), 4)
    | 4, 2 => some (.ldMnnXy x (wordOf b3 b2), 4)
    | 5, 2 => some (.ldXyMnn x (wordOf b3 b2), 4)
    | 4, 3 => some (.incXy x, 2)
    | 5, 3 => some (.decXy x, 2)
    | 4, 4 => some (.incXyh x, 2)
    | 5, 4 => some (.incXyl x, 2)
    | 6, 4 => some (.incMxyd x b2, 3)
    | 4, 5 => some (.decXyh x, 2)
    | 5, 5 => some (.decXyl x, 2)
    | 6, 5 => some (.decMxyd x b2, 3)
    | 4, 6 => some (.ldXyhN x b2, 3)
    | 5, 6 => some (.ldXylN x b2, 3)
    | 6, 6 => some (.ldMxydN x b2 b3, 4)
    | _, _ => none
  | 1 =>
    match R8.ofCode (fieldY op), R8.ofCode (fieldZ op) with
    | some _, some _ => (ldHalves x (fieldY op) (fieldZ op)).map (·, 2)
    | some r, none => some (ldRMxyd r x b2, 3)
    | none, some r => some (ldMxydR r x b2, 3)
    | none, none => none
  | 2 =>
    match z with
    | 4 => some (aluXyh (AluOp.ofCode (fieldY op)) x, 2)
    | 5 => some (aluXyl (AluOp.ofCode (fieldY op)) x, 2)
    | 6 => some (aluMxyd (AluOp.ofCode (fieldY op)) x b2, 3)
    | _ => none
  | _ =>
    match y, z with
    | 4, 1 => some (.popXy x, 2)
    | 4, 3 => some (.exMspXy x, 2)
    | 4, 5 => some (.pushXy x, 2)
    | 5, 1 => some (.jpXy x, 2)
    | 7, 1 => some (.ldSpXy x, 2)
    | _, _ => none

/-- The bytes after DD or FD (R110): the indexed bit group, an indexed form, or the fallback, whose two
bytes are the prefix and the opcode that is then executed as an unprefixed one. -/
def decodeXy (x : Xy) (op b2 b3 : Byte) : Instr × Nat :=
  if op = 0xCB then decodeXyCb x b2 b3
  else (decodeIndexed x op b2 b3).getD (.xyFallback x op, 2)

/-- Quarter x = 0 of the primary table (R107). -/
def decodeQuarter0 (op b1 b2 : Byte) : Instr × Nat :=
  let rp := Rp.ofCode (fieldP op)
  match (fieldZ op).toNat with
  | 0 =>
    match (fieldY op).toNat with
    | 0 => (.nop, 1)
    | 1 => (.exAfAf, 1)
    | 2 => (.djnz b1, 2)
    | 3 => (.jr b1, 2)
    | _ => (.jrCc (Cond.ofCode (fieldY op - 4)) b1, 2)
  | 1 => if fieldQ op then (.addHlRp rp, 1) else (.ldRpNn rp (wordOf b2 b1), 3)
  | 2 =>
    match (fieldY op).toNat with
    | 0 => (.ldMbcA, 1)
    | 1 => (.ldAMbc, 1)
    | 2 => (.ldMdeA, 1)
    | 3 => (.ldAMde, 1)
    | 4 => (.ldMnnHl (wordOf b2 b1), 3)
    | 5 => (.ldHlMnn (wordOf b2 b1), 3)
    | 6 => (.ldMnnA (wordOf b2 b1), 3)
    | _ => (.ldAMnn (wordOf b2 b1), 3)
  | 3 => if fieldQ op then (.decRp rp, 1) else (.incRp rp, 1)
  | 4 => match R8.ofCode (fieldY op) with
    | some r => (.incR r, 1)
    | none => (.incMhl, 1)
  | 5 => match R8.ofCode (fieldY op) with
    | some r => (.decR r, 1)
    | none => (.decMhl, 1)
  | 6 => match R8.ofCode (fieldY op) with
    | some r => (.ldRN r b1, 2)
    | none => (.ldMhlN b1, 2)
  | _ =>
    match (fieldY op).toNat with
    | 0 => (.rlca, 1) | 1 => (.rrca, 1) | 2 => (.rla, 1) | 3 => (.rra, 1)
    | 4 => (.daa, 1) | 5 => (.cpl, 1) | 6 => (.scf, 1) | _ => (.ccf, 1)

/-- Quarter x = 1 of the primary table (R107): the 8-bit loads and HALT. -/
def decodeQuarter1 (op : Byte) : Instr × Nat :=
  match R8.ofCode (fieldY op), R8.ofCode (fieldZ op) with
  | some r, some r' => (.ldRR r r', 1)
  | some r, none => (.ldRMhl r, 1)
  | none, some r => (.ldMhlR r, 1)
  | none, none => (.halt, 1)

/-- Quarter x = 2 of the primary table (R107): the ALU operations. -/
def decodeQuarter2 (op : Byte) : Instr × Nat :=
  match R8.ofCode (fieldZ op) with
  | some r => (aluR (AluOp.ofCode (fieldY op)) r, 1)
  | none => (aluMhl (AluOp.ofCode (fieldY op)), 1)

/-- Quarter x = 3 of the primary table (R107), the four prefixes in their places. -/
def decodeQuarter3 (op b1 b2 b3 : Byte) : Instr × Nat :=
  match (fieldZ op).toNat with
  | 0 => (.retCc (Cond.ofCode (fieldY op)), 1)
  | 1 =>
    match (fieldY op).toNat with
    | 1 => (.ret, 1)
    | 3 => (.exx, 1)
    | 5 => (.jpHl, 1)
    | 7 => (.ldSpHl, 1)
    | _ => (.popRp2 (Rp2.ofCode (fieldP op)), 1)
  | 2 => (.jpCcNn (Cond.ofCode (fieldY op)) (wordOf b2 b1), 3)
  | 3 =>
    match (fieldY op).toNat with
    | 0 => (.jpNn (wordOf b2 b1), 3)
    | 1 => decodeCb b1
    | 2 => (.outMnA b1, 2)
    | 3 => (.inAMn b1, 2)
    | 4 => (.exMspHl, 1)
    | 5 => (.exDeHl, 1)
    | 6 => (.di, 1)
    | _ => (.ei, 1)
  | 4 => (.callCcNn (Cond.ofCode (fieldY op)) (wordOf b2 b1), 3)
  | 5 =>
    match (fieldY op).toNat with
    | 1 => (.callNn (wordOf b2 b1), 3)
    | 3 => decodeXy .ix b1 b2 b3
    | 5 => decodeEd b1 b2 b3
    | 7 => decodeXy .iy b1 b2 b3
    | _ => (.pushRp2 (Rp2.ofCode (fieldP op)), 1)
  | 6 => (aluN (AluOp.ofCode (fieldY op)) b1, 2)
  | _ => (.rstP (fieldY op), 1)

/-- The instruction that begins with the byte `b0` when the bytes behind it are `b1`, `b2`, `b3`, and
its length. Every byte sequence decodes (R116), and the length depends on the first bytes alone (R118). -/
def decodeBytes (b0 b1 b2 b3 : Byte) : Instr × Nat :=
  match fieldX b0 with
  | 0 => decodeQuarter0 b0 b1 b2
  | 1 => decodeQuarter1 b0
  | 2 => decodeQuarter2 b0
  | _ => decodeQuarter3 b0 b1 b2 b3

/-- Why a list of bytes is not an instruction. -/
inductive DecodeError where
  /-- The list is shorter than the `needed` bytes of the instruction it begins. Raised by `decode` only;
  the machine fetches the bytes an instruction has, so no step meets it. -/
  | truncated (needed : Nat)
  deriving DecidableEq, Repr

/-- The instruction at the head of a list of bytes, with the rest of the list. -/
def decode (bs : List Byte) : Except DecodeError (Instr × List Byte) :=
  let d := decodeBytes (bs.getD 0 0) (bs.getD 1 0) (bs.getD 2 0) (bs.getD 3 0)
  if d.2 ≤ bs.length then .ok (d.1, bs.drop d.2) else .error (.truncated d.2)

/-- Byte k of an instruction whose bits are `w`, as the table numbers them: bit 0 is the least
significant bit of the first byte. -/
def tableByte (nbits w k : Nat) : Byte := BitVec.ofNat 8 (w % 2 ^ nbits / 256 ^ k)

/-- The instruction the decoder reads from the bits `w`; the bits above `nbits` are zero. -/
def decodeTableWord (nbits w : Nat) : Option Instr :=
  some (decodeBytes (tableByte nbits w 0) (tableByte nbits w 1) (tableByte nbits w 2) (tableByte nbits w 3)).1

-- The encoder

/-- The 3-bit code of a register (R48). -/
def R8.code : R8 → BitVec 3
  | .b => 0 | .c => 1 | .d => 2 | .e => 3 | .h => 4 | .l => 5 | .a => 7

/-- The 2-bit code of an `rp` pair (R49). -/
def Rp.code : Rp → BitVec 2
  | .bc => 0 | .de => 1 | .hl => 2 | .sp => 3

/-- The 2-bit code of an `rp2` pair (R49). -/
def Rp2.code : Rp2 → BitVec 2
  | .bc => 0 | .de => 1 | .hl => 2 | .af => 3

/-- The 2-bit code of a `pp` pair (R49). -/
def Pp.code : Pp → BitVec 2
  | .bc => 0 | .de => 1 | .xy => 2 | .sp => 3

/-- The 3-bit code of a condition (R39). -/
def Cond.code : Cond → BitVec 3
  | .nz => 0 | .z => 1 | .nc => 2 | .c => 3 | .po => 4 | .pe => 5 | .p => 6 | .m => 7

/-- The 2-bit code JR gives a condition: the low bits of its 3-bit code (R39, R603). -/
def Cond.jrCode (cc : Cond) : BitVec 2 := cc.code.extractLsb' 0 2

/-- The prefix byte of an index register (R110). -/
def Xy.prefixByte : Xy → Byte
  | .ix => 0xDD
  | .iy => 0xFD

/-- An opcode byte from its fields x, y, z (R101). -/
def xyz (x : BitVec 2) (y z : BitVec 3) : Byte := x ++ y ++ z

/-- An opcode byte from its fields x, p, q and z (R101). -/
def xpqz (x p : BitVec 2) (q : BitVec 1) (z : BitVec 3) : Byte := x ++ p ++ q ++ z

/-- The bytes of an instruction, first byte first (R100). -/
def encode : Instr → List Byte
  | .nop => [0x00]
  | .exAfAf => [0x08]
  | .djnz n => [0x10, n]
  | .jr n => [0x18, n]
  | .jrCc cc n => [0b001#3 ++ cc.jrCode ++ 0b000#3, n]
  | .ldRpNn p nn => [xpqz 0 p.code 0 1, loByte nn, hiByte nn]
  | .addHlRp p => [xpqz 0 p.code 1 1]
  | .ldMbcA => [0x02]
  | .ldMdeA => [0x12]
  | .ldMnnHl nn => [0x22, loByte nn, hiByte nn]
  | .ldMnnA nn => [0x32, loByte nn, hiByte nn]
  | .ldAMbc => [0x0A]
  | .ldAMde => [0x1A]
  | .ldHlMnn nn => [0x2A, loByte nn, hiByte nn]
  | .ldAMnn nn => [0x3A, loByte nn, hiByte nn]
  | .incRp p => [xpqz 0 p.code 0 3]
  | .decRp p => [xpqz 0 p.code 1 3]
  | .incR r => [xyz 0 r.code 4]
  | .incMhl => [0x34]
  | .decR r => [xyz 0 r.code 5]
  | .decMhl => [0x35]
  | .ldRN r n => [xyz 0 r.code 6, n]
  | .ldMhlN n => [0x36, n]
  | .rlca => [0x07]
  | .rrca => [0x0F]
  | .rla => [0x17]
  | .rra => [0x1F]
  | .daa => [0x27]
  | .cpl => [0x2F]
  | .scf => [0x37]
  | .ccf => [0x3F]
  | .halt => [0x76]
  | .ldRR r r' => [xyz 1 r.code r'.code]
  | .ldRMhl r => [xyz 1 r.code 6]
  | .ldMhlR r => [xyz 1 6 r.code]
  | .addAR r => [xyz 2 0 r.code]
  | .addAMhl => [xyz 2 0 6]
  | .addAN n => [xyz 3 0 6, n]
  | .adcAR r => [xyz 2 1 r.code]
  | .adcAMhl => [xyz 2 1 6]
  | .adcAN n => [xyz 3 1 6, n]
  | .subR r => [xyz 2 2 r.code]
  | .subMhl => [xyz 2 2 6]
  | .subN n => [xyz 3 2 6, n]
  | .sbcAR r => [xyz 2 3 r.code]
  | .sbcAMhl => [xyz 2 3 6]
  | .sbcAN n => [xyz 3 3 6, n]
  | .andR r => [xyz 2 4 r.code]
  | .andMhl => [xyz 2 4 6]
  | .andN n => [xyz 3 4 6, n]
  | .xorR r => [xyz 2 5 r.code]
  | .xorMhl => [xyz 2 5 6]
  | .xorN n => [xyz 3 5 6, n]
  | .orR r => [xyz 2 6 r.code]
  | .orMhl => [xyz 2 6 6]
  | .orN n => [xyz 3 6 6, n]
  | .cpR r => [xyz 2 7 r.code]
  | .cpMhl => [xyz 2 7 6]
  | .cpN n => [xyz 3 7 6, n]
  | .retCc cc => [xyz 3 cc.code 0]
  | .popRp2 p => [xpqz 3 p.code 0 1]
  | .ret => [0xC9]
  | .exx => [0xD9]
  | .jpHl => [0xE9]
  | .ldSpHl => [0xF9]
  | .jpCcNn cc nn => [xyz 3 cc.code 2, loByte nn, hiByte nn]
  | .jpNn nn => [0xC3, loByte nn, hiByte nn]
  | .outMnA n => [0xD3, n]
  | .inAMn n => [0xDB, n]
  | .exMspHl => [0xE3]
  | .exDeHl => [0xEB]
  | .di => [0xF3]
  | .ei => [0xFB]
  | .callCcNn cc nn => [xyz 3 cc.code 4, loByte nn, hiByte nn]
  | .pushRp2 p => [xpqz 3 p.code 0 5]
  | .callNn nn => [0xCD, loByte nn, hiByte nn]
  | .rstP p => [xyz 3 p 7]
  | .rlcR r => [0xCB, xyz 0 0 r.code]
  | .rlcMhl => [0xCB, xyz 0 0 6]
  | .rrcR r => [0xCB, xyz 0 1 r.code]
  | .rrcMhl => [0xCB, xyz 0 1 6]
  | .rlR r => [0xCB, xyz 0 2 r.code]
  | .rlMhl => [0xCB, xyz 0 2 6]
  | .rrR r => [0xCB, xyz 0 3 r.code]
  | .rrMhl => [0xCB, xyz 0 3 6]
  | .slaR r => [0xCB, xyz 0 4 r.code]
  | .slaMhl => [0xCB, xyz 0 4 6]
  | .sraR r => [0xCB, xyz 0 5 r.code]
  | .sraMhl => [0xCB, xyz 0 5 6]
  | .sllR r => [0xCB, xyz 0 6 r.code]
  | .sllMhl => [0xCB, xyz 0 6 6]
  | .srlR r => [0xCB, xyz 0 7 r.code]
  | .srlMhl => [0xCB, xyz 0 7 6]
  | .bitBR b r => [0xCB, xyz 1 b r.code]
  | .bitBMhl b => [0xCB, xyz 1 b 6]
  | .resBR b r => [0xCB, xyz 2 b r.code]
  | .resBMhl b => [0xCB, xyz 2 b 6]
  | .setBR b r => [0xCB, xyz 3 b r.code]
  | .setBMhl b => [0xCB, xyz 3 b 6]
  | .illegalEd op => [0xED, op]
  | .inRMc r => [0xED, xyz 1 r.code 0]
  | .illegalEd70 => [0xED, 0x70]
  | .outMcR r => [0xED, xyz 1 r.code 1]
  | .illegalEd71 => [0xED, 0x71]
  | .sbcHlRp p => [0xED, xpqz 1 p.code 0 2]
  | .adcHlRp p => [0xED, xpqz 1 p.code 1 2]
  | .ldMnnRp p nn => [0xED, xpqz 1 p.code 0 3, loByte nn, hiByte nn]
  | .ldRpMnn p nn => [0xED, xpqz 1 p.code 1 3, loByte nn, hiByte nn]
  | .neg => [0xED, 0x44]
  | .retn => [0xED, 0x45]
  | .reti => [0xED, 0x4D]
  | .im0 => [0xED, 0x46]
  | .im1 => [0xED, 0x56]
  | .im2 => [0xED, 0x5E]
  | .ldIA => [0xED, 0x47]
  | .ldRA => [0xED, 0x4F]
  | .ldAI => [0xED, 0x57]
  | .ldAR => [0xED, 0x5F]
  | .rrd => [0xED, 0x67]
  | .rld => [0xED, 0x6F]
  | .ldi => [0xED, 0xA0]
  | .cpi => [0xED, 0xA1]
  | .ini => [0xED, 0xA2]
  | .outi => [0xED, 0xA3]
  | .ldd => [0xED, 0xA8]
  | .cpd => [0xED, 0xA9]
  | .ind => [0xED, 0xAA]
  | .outd => [0xED, 0xAB]
  | .ldir => [0xED, 0xB0]
  | .cpir => [0xED, 0xB1]
  | .inir => [0xED, 0xB2]
  | .otir => [0xED, 0xB3]
  | .lddr => [0xED, 0xB8]
  | .cpdr => [0xED, 0xB9]
  | .indr => [0xED, 0xBA]
  | .otdr => [0xED, 0xBB]
  | .xyFallback x op => [x.prefixByte, op]
  | .addXyPp x p => [x.prefixByte, xpqz 0 p.code 1 1]
  | .ldXyNn x nn => [x.prefixByte, 0x21, loByte nn, hiByte nn]
  | .ldMnnXy x nn => [x.prefixByte, 0x22, loByte nn, hiByte nn]
  | .incXy x => [x.prefixByte, 0x23]
  | .decXy x => [x.prefixByte, 0x2B]
  | .ldXyMnn x nn => [x.prefixByte, 0x2A, loByte nn, hiByte nn]
  | .incXyh x => [x.prefixByte, 0x24]
  | .decXyh x => [x.prefixByte, 0x25]
  | .incXyl x => [x.prefixByte, 0x2C]
  | .decXyl x => [x.prefixByte, 0x2D]
  | .ldXyhN x n => [x.prefixByte, 0x26, n]
  | .ldXylN x n => [x.prefixByte, 0x2E, n]
  | .incMxyd x d => [x.prefixByte, 0x34, d]
  | .decMxyd x d => [x.prefixByte, 0x35, d]
  | .ldMxydN x d n => [x.prefixByte, 0x36, d, n]
  | .ldBXyh x => [x.prefixByte, 0x44]
  | .ldBXyl x => [x.prefixByte, 0x45]
  | .ldBMxyd x d => [x.prefixByte, 0x46, d]
  | .ldCXyh x => [x.prefixByte, 0x4C]
  | .ldCXyl x => [x.prefixByte, 0x4D]
  | .ldCMxyd x d => [x.prefixByte, 0x4E, d]
  | .ldDXyh x => [x.prefixByte, 0x54]
  | .ldDXyl x => [x.prefixByte, 0x55]
  | .ldDMxyd x d => [x.prefixByte, 0x56, d]
  | .ldEXyh x => [x.prefixByte, 0x5C]
  | .ldEXyl x => [x.prefixByte, 0x5D]
  | .ldEMxyd x d => [x.prefixByte, 0x5E, d]
  | .ldXyhB x => [x.prefixByte, 0x60]
  | .ldXyhC x => [x.prefixByte, 0x61]
  | .ldXyhD x => [x.prefixByte, 0x62]
  | .ldXyhE x => [x.prefixByte, 0x63]
  | .ldXyhXyh x => [x.prefixByte, 0x64]
  | .ldXyhXyl x => [x.prefixByte, 0x65]
  | .ldHMxyd x d => [x.prefixByte, 0x66, d]
  | .ldXyhA x => [x.prefixByte, 0x67]
  | .ldXylB x => [x.prefixByte, 0x68]
  | .ldXylC x => [x.prefixByte, 0x69]
  | .ldXylD x => [x.prefixByte, 0x6A]
  | .ldXylE x => [x.prefixByte, 0x6B]
  | .ldXylXyh x => [x.prefixByte, 0x6C]
  | .ldXylXyl x => [x.prefixByte, 0x6D]
  | .ldLMxyd x d => [x.prefixByte, 0x6E, d]
  | .ldXylA x => [x.prefixByte, 0x6F]
  | .ldMxydB x d => [x.prefixByte, 0x70, d]
  | .ldMxydC x d => [x.prefixByte, 0x71, d]
  | .ldMxydD x d => [x.prefixByte, 0x72, d]
  | .ldMxydE x d => [x.prefixByte, 0x73, d]
  | .ldMxydH x d => [x.prefixByte, 0x74, d]
  | .ldMxydL x d => [x.prefixByte, 0x75, d]
  | .ldMxydA x d => [x.prefixByte, 0x77, d]
  | .ldAXyh x => [x.prefixByte, 0x7C]
  | .ldAXyl x => [x.prefixByte, 0x7D]
  | .ldAMxyd x d => [x.prefixByte, 0x7E, d]
  | .addAXyh x => [x.prefixByte, xyz 2 0 4]
  | .addAXyl x => [x.prefixByte, xyz 2 0 5]
  | .addAMxyd x d => [x.prefixByte, xyz 2 0 6, d]
  | .adcAXyh x => [x.prefixByte, xyz 2 1 4]
  | .adcAXyl x => [x.prefixByte, xyz 2 1 5]
  | .adcAMxyd x d => [x.prefixByte, xyz 2 1 6, d]
  | .subXyh x => [x.prefixByte, xyz 2 2 4]
  | .subXyl x => [x.prefixByte, xyz 2 2 5]
  | .subMxyd x d => [x.prefixByte, xyz 2 2 6, d]
  | .sbcAXyh x => [x.prefixByte, xyz 2 3 4]
  | .sbcAXyl x => [x.prefixByte, xyz 2 3 5]
  | .sbcAMxyd x d => [x.prefixByte, xyz 2 3 6, d]
  | .andXyh x => [x.prefixByte, xyz 2 4 4]
  | .andXyl x => [x.prefixByte, xyz 2 4 5]
  | .andMxyd x d => [x.prefixByte, xyz 2 4 6, d]
  | .xorXyh x => [x.prefixByte, xyz 2 5 4]
  | .xorXyl x => [x.prefixByte, xyz 2 5 5]
  | .xorMxyd x d => [x.prefixByte, xyz 2 5 6, d]
  | .orXyh x => [x.prefixByte, xyz 2 6 4]
  | .orXyl x => [x.prefixByte, xyz 2 6 5]
  | .orMxyd x d => [x.prefixByte, xyz 2 6 6, d]
  | .cpXyh x => [x.prefixByte, xyz 2 7 4]
  | .cpXyl x => [x.prefixByte, xyz 2 7 5]
  | .cpMxyd x d => [x.prefixByte, xyz 2 7 6, d]
  | .popXy x => [x.prefixByte, 0xE1]
  | .exMspXy x => [x.prefixByte, 0xE3]
  | .pushXy x => [x.prefixByte, 0xE5]
  | .jpXy x => [x.prefixByte, 0xE9]
  | .ldSpXy x => [x.prefixByte, 0xF9]
  | .rlcMxydR x d r => [x.prefixByte, 0xCB, d, xyz 0 0 r.code]
  | .rlcMxyd x d => [x.prefixByte, 0xCB, d, xyz 0 0 6]
  | .rrcMxydR x d r => [x.prefixByte, 0xCB, d, xyz 0 1 r.code]
  | .rrcMxyd x d => [x.prefixByte, 0xCB, d, xyz 0 1 6]
  | .rlMxydR x d r => [x.prefixByte, 0xCB, d, xyz 0 2 r.code]
  | .rlMxyd x d => [x.prefixByte, 0xCB, d, xyz 0 2 6]
  | .rrMxydR x d r => [x.prefixByte, 0xCB, d, xyz 0 3 r.code]
  | .rrMxyd x d => [x.prefixByte, 0xCB, d, xyz 0 3 6]
  | .slaMxydR x d r => [x.prefixByte, 0xCB, d, xyz 0 4 r.code]
  | .slaMxyd x d => [x.prefixByte, 0xCB, d, xyz 0 4 6]
  | .sraMxydR x d r => [x.prefixByte, 0xCB, d, xyz 0 5 r.code]
  | .sraMxyd x d => [x.prefixByte, 0xCB, d, xyz 0 5 6]
  | .sllMxydR x d r => [x.prefixByte, 0xCB, d, xyz 0 6 r.code]
  | .sllMxyd x d => [x.prefixByte, 0xCB, d, xyz 0 6 6]
  | .srlMxydR x d r => [x.prefixByte, 0xCB, d, xyz 0 7 r.code]
  | .srlMxyd x d => [x.prefixByte, 0xCB, d, xyz 0 7 6]
  | .bitBMxyd x d b z => [x.prefixByte, 0xCB, d, xyz 1 b z]
  | .resBMxydR x d b r => [x.prefixByte, 0xCB, d, xyz 2 b r.code]
  | .resBMxyd x d b => [x.prefixByte, 0xCB, d, xyz 2 b 6]
  | .setBMxydR x d b r => [x.prefixByte, 0xCB, d, xyz 3 b r.code]
  | .setBMxyd x d b => [x.prefixByte, 0xCB, d, xyz 3 b 6]

/-- The length of an instruction in bytes (R118). -/
def Instr.length (i : Instr) : Nat := (encode i).length

end Sys2Proof
end

