-- ==== Sys2Proof/Machine/Flags.lean ====
section
/-! DEFINITION. The flags (spec/10_state.md R37, R39) and the ALU and flag engine of spec/40_alu.md: each
primitive a pure function of operands, incoming carry and old flags (R200 to R220). Carries and
overflows are comparisons of exact integers. -/

namespace Sys2Proof.Machine

/-- The eight flag bits of F by name, bit 7 first (R37). -/
structure Flags where
  s : Bool
  z : Bool
  f5 : Bool
  h : Bool
  f3 : Bool
  pv : Bool
  n : Bool
  c : Bool
  deriving DecidableEq, Repr

/-- The flags a byte of F holds (R37). -/
def Flags.ofByte (f : Byte) : Flags where
  s := f.getLsbD 7
  z := f.getLsbD 6
  f5 := f.getLsbD 5
  h := f.getLsbD 4
  f3 := f.getLsbD 3
  pv := f.getLsbD 2
  n := f.getLsbD 1
  c := f.getLsbD 0

/-- The byte of F that holds the flags (R37). -/
def Flags.toByte (g : Flags) : Byte :=
  BitVec.ofBool g.s ++ BitVec.ofBool g.z ++ BitVec.ofBool g.f5 ++ BitVec.ofBool g.h ++
    BitVec.ofBool g.f3 ++ BitVec.ofBool g.pv ++ BitVec.ofBool g.n ++ BitVec.ofBool g.c

/-- Whether a condition holds (R39). -/
def Flags.cond (g : Flags) : Cond → Bool
  | .nz => !g.z
  | .z => g.z
  | .nc => !g.c
  | .c => g.c
  | .po => !g.pv
  | .pe => g.pv
  | .p => !g.s
  | .m => g.s

/-- `Sz(v)` and `XY(v)` (R200): S, Z, 5 and 3 from a result. -/
def Flags.szxy (g : Flags) (v : Byte) : Flags :=
  { g with s := v.getLsbD 7, z := v == 0, f5 := v.getLsbD 5, f3 := v.getLsbD 3 }

/-- `XY(v)` alone (R200). -/
def Flags.xy (g : Flags) (v : Byte) : Flags :=
  { g with f5 := v.getLsbD 5, f3 := v.getLsbD 3 }

/-- The number of 1 bits of a byte. -/
def onesCount (v : Byte) : Nat :=
  (v.getLsbD 0).toNat + (v.getLsbD 1).toNat + (v.getLsbD 2).toNat + (v.getLsbD 3).toNat +
    (v.getLsbD 4).toNat + (v.getLsbD 5).toNat + (v.getLsbD 6).toNat + (v.getLsbD 7).toNat

/-- `parity(v)`: 1 when the number of 1 bits is even (R200). -/
def parity (v : Byte) : Bool := onesCount v % 2 == 0

/-- The low nibble as an integer. -/
def nibble (v : Byte) : Nat := v.toNat % 16

-- 8-bit arithmetic (R201 to R206)

/-- `add8(a, b, c)` (R201): every flag is written. DESIGN CHOICE (log entry 20): the example of R460 gives F = 0x00
for 0x15 + 0x27, where R201 gives bits 5 and 3 of 0x3C, so F = 0x28; the model follows R201. -/
def add8 (a b : Byte) (cin : Bool) : Byte × Flags :=
  let t := a.toNat + b.toNat + cin.toNat
  let r := BitVec.ofNat 8 t
  (r, { s := r.getLsbD 7, z := r == 0, f5 := r.getLsbD 5
        h := decide (15 < nibble a + nibble b + cin.toNat)
        f3 := r.getLsbD 3
        pv := a.getLsbD 7 == b.getLsbD 7 && r.getLsbD 7 != a.getLsbD 7
        n := false
        c := decide (255 < t) })

/-- `sub8(a, b, c)` (R202): every flag is written. -/
def sub8 (a b : Byte) (cin : Bool) : Byte × Flags :=
  let t : Int := (a.toNat : Int) - b.toNat - cin.toNat
  let r := BitVec.ofInt 8 t
  (r, { s := r.getLsbD 7, z := r == 0, f5 := r.getLsbD 5
        h := decide ((nibble a : Int) - nibble b - cin.toNat < 0)
        f3 := r.getLsbD 3
        pv := a.getLsbD 7 != b.getLsbD 7 && r.getLsbD 7 != a.getLsbD 7
        n := true
        c := decide (t < 0) })

/-- `cp8(a, b)` (R204): the flags of the subtraction, but 5 and 3 from the operand. -/
def cp8 (a b : Byte) : Flags := (sub8 a b false).2.xy b

/-- `inc8(a)` (R205): C unchanged. -/
def inc8 (a : Byte) (g : Flags) : Byte × Flags :=
  let r := a + 1
  (r, { g.szxy r with h := nibble a == 15, pv := a == 0x7F, n := false })

/-- `dec8(a)` (R206): C unchanged. -/
def dec8 (a : Byte) (g : Flags) : Byte × Flags :=
  let r := a - 1
  (r, { g.szxy r with h := nibble a == 0, pv := a == 0x80, n := true })

-- Logic (R207 to R209)

/-- The flags of a logical result (R207 to R209): `h` is 1 for AND and 0 for XOR and OR. -/
def logicFlags (r : Byte) (h : Bool) : Flags where
  s := r.getLsbD 7
  z := r == 0
  f5 := r.getLsbD 5
  h := h
  f3 := r.getLsbD 3
  pv := parity r
  n := false
  c := false

/-- `and8(a, b)` (R207). -/
def and8 (a b : Byte) : Byte × Flags := (a &&& b, logicFlags (a &&& b) true)

/-- `xor8(a, b)` (R208). -/
def xor8 (a b : Byte) : Byte × Flags := (a ^^^ b, logicFlags (a ^^^ b) false)

/-- `or8(a, b)` (R209). -/
def or8 (a b : Byte) : Byte × Flags := (a ||| b, logicFlags (a ||| b) false)

/-- The accumulator operation `op` on A and an operand (R420 to R427): the new A, which CP leaves as it
was, and the new flags. -/
def alu8 (op : AluOp) (a v : Byte) (g : Flags) : Byte × Flags :=
  match op with
  | .add => add8 a v false
  | .adc => add8 a v g.c
  | .sub => sub8 a v false
  | .sbc => sub8 a v g.c
  | .and => and8 a v
  | .xor => xor8 a v
  | .or => or8 a v
  | .cp => (a, cp8 a v)

-- 16-bit arithmetic, chained from two 8-bit operations (R210 to R212)

/-- `add16(x, y)` (R210): S, Z and PV unchanged. -/
def add16 (x y : Word) (g : Flags) : Word × Flags :=
  let lo := add8 (loByte x) (loByte y) false
  let hi := add8 (hiByte x) (hiByte y) lo.2.c
  (wordOf hi.1 lo.1, { g.xy hi.1 with h := hi.2.h, n := false, c := hi.2.c })

/-- The flags of a 16-bit operation with carry (R211, R212): those of the high byte's operation, but Z
from the whole result. -/
def chainFlags (r : Word) (hi : Flags) : Flags :=
  { hi with z := r == 0 }

/-- `adc16(x, y, c)` (R211): every flag is written. -/
def adc16 (x y : Word) (cin : Bool) : Word × Flags :=
  let lo := add8 (loByte x) (loByte y) cin
  let hi := add8 (hiByte x) (hiByte y) lo.2.c
  (wordOf hi.1 lo.1, chainFlags (wordOf hi.1 lo.1) hi.2)

/-- `sbc16(x, y, c)` (R212): every flag is written. -/
def sbc16 (x y : Word) (cin : Bool) : Word × Flags :=
  let lo := sub8 (loByte x) (loByte y) cin
  let hi := sub8 (hiByte x) (hiByte y) lo.2.c
  (wordOf hi.1 lo.1, chainFlags (wordOf hi.1 lo.1) hi.2)

-- Decimal adjust (R213)

/-- The correction DAA adds or subtracts: 0x06 for the low digit, 0x60 for the high one (R213). -/
def daaDiff (a : Byte) (g : Flags) : Byte :=
  (if g.h || decide (9 < nibble a) then 0x06 else 0x00) |||
    (if g.c || decide (0x99 < a.toNat) then 0x60 else 0x00)

/-- `daa(A, F)` (R213): N unchanged; a set carry stays set. -/
def daa (a : Byte) (g : Flags) : Byte × Flags :=
  let r := if g.n then a - daaDiff a g else a + daaDiff a g
  (r, { g.szxy r with
        h := (a ^^^ r).getLsbD 4
        pv := parity r
        c := g.c || decide (0x99 < a.toNat) })

-- Rotates and shifts (R214 to R216)

/-- `rot8(op, v, cin)` (R214): the result and the bit shifted out. -/
def rot8 (op : RotOp) (v : Byte) (cin : Bool) : Byte × Bool :=
  let b7 := v.getLsbD 7
  let b0 := v.getLsbD 0
  match op with
  | .rlc => ((v <<< 1) ||| (BitVec.ofBool b7).setWidth 8, b7)
  | .rrc => ((v >>> 1) ||| ((BitVec.ofBool b0).setWidth 8 <<< 7), b0)
  | .rl => ((v <<< 1) ||| (BitVec.ofBool cin).setWidth 8, b7)
  | .rr => ((v >>> 1) ||| ((BitVec.ofBool cin).setWidth 8 <<< 7), b0)
  | .sla => (v <<< 1, b7)
  | .sra => ((v >>> 1) ||| (v &&& 0x80), b0)
  | .sll => ((v <<< 1) ||| 1, b7)
  | .srl => (v >>> 1, b0)

/-- A CB-group rotate or shift with its flags (R215). -/
def rotFlags (op : RotOp) (v : Byte) (g : Flags) : Byte × Flags :=
  let (r, cout) := rot8 op v g.c
  (r, { g.szxy r with h := false, pv := parity r, n := false, c := cout })

/-- An accumulator rotate with its flags (R216): S, Z and PV unchanged. -/
def rotAFlags (op : RotOp) (a : Byte) (g : Flags) : Byte × Flags :=
  let (r, cout) := rot8 op a g.c
  (r, { g.xy r with h := false, n := false, c := cout })

/-- The flags of a byte that is loaded, read from a port or left by RLD and RRD, with a given PV: S, Z, 5,
3 from the byte, H and N clear, C unchanged (R314, R315, R553, R651). -/
def loadedFlags (v : Byte) (pv : Bool) (g : Flags) : Flags :=
  { g.szxy v with h := false, pv := pv, n := false }

-- Bit operations (R217, R558, R560)

/-- The byte with bit b alone: `1 << b`. -/
def bitMask (b : BitVec 3) : Byte := (1 : Byte) <<< b.toNat

/-- `bitflags(b, v, x5, x3)` (R217): C unchanged. -/
def bitFlags (b : BitVec 3) (v : Byte) (x5 x3 : Bool) (g : Flags) : Flags :=
  let zero := !v.getLsbD b.toNat
  { g with s := b == 7 && v.getLsbD 7, z := zero, f5 := x5, h := true, f3 := x3, pv := zero, n := false }

/-- RES: the byte with bit b cleared (R558). -/
def resBit (b : BitVec 3) (v : Byte) : Byte := v &&& ~~~ bitMask b

/-- SET: the byte with bit b set (R560). -/
def setBit (b : BitVec 3) (v : Byte) : Byte := v ||| bitMask b

-- Block instructions (R218 to R220)

/-- Flags of LDI, LDD and their repeats (R218): `count` is the decremented BC. -/
def blockLdFlags (a v : Byte) (count : Word) (g : Flags) : Flags :=
  let k := a + v
  { g with f5 := k.getLsbD 1, h := false, f3 := k.getLsbD 3, pv := count != 0, n := false }

/-- Flags of CPI, CPD and their repeats (R219): `count` is the decremented BC; C unchanged. -/
def blockCpFlags (a v : Byte) (count : Word) (g : Flags) : Flags :=
  let r := a - v
  let h := decide (nibble a < nibble v)
  let k := r - (BitVec.ofBool h).setWidth 8
  { g with s := r.getLsbD 7, z := r == 0, f5 := k.getLsbD 1, h := h, f3 := k.getLsbD 3
           pv := count != 0, n := true }

/-- Flags of the block I/O instructions (R220): `count` is the decremented B; S, 5, H, 3, N and C are
draws, the bits of the free byte `draw` at their places. -/
def blockIoFlags (draw : Byte) (count : Byte) : Flags :=
  { Flags.ofByte draw with z := count == 0, pv := count != 0 }

end Sys2Proof.Machine
end

