-- ==== Sys2Proof/Config.lean ====
section
/-! DEFINITION. What an implementation fixes (the OPEN parameters of spec/00_scope.md R8) and the
values the spec leaves free (the draws of R11, the answers of the host's ports). -/

namespace Sys2Proof

/-- The high byte of the port address of IN A,(n) and OUT (n),A (R8 `PortHighImm`, R71, D9). -/
inductive PortHigh where
  | zero  -- the port address is 0x00:n
  | a     -- the port address is A:n
  deriving DecidableEq, Repr

/-- The three OPEN parameters of R8, with the defaults the spec gives them. They are plain data that
a state carries and no step changes (log entry 1): a claim about every state covers both values of each. -/
structure Params where
  /-- `PortHighImm`: R71, D9. -/
  portHighImm : PortHigh := .zero
  /-- `DiCancelsEiDelay`: R467, D6. -/
  diCancelsEiDelay : Bool := false
  /-- `IntAckClearsIFF2`: R711, D5. -/
  intAckClearsIff2 : Bool := true
  deriving DecidableEq, Repr

/-- The `draw` of R11: draw number k of a run is `freeByte k`, about which nothing is known.
Used for the flag bits of R220, R556 and R557 (log entry 2). -/
opaque Config.freeByte : Nat → Byte

/-- What the host's port `p` answers to a read for which the state holds no scripted answer
(R71, R78): nothing is known about it, and the number of the draw keeps two reads apart (log entry 3). -/
opaque Config.portAnswer : Nat → Word → Byte

end Sys2Proof
end

