-- ==== Sys2Proof/Machine/State.lean ====
section
/-! DEFINITION. The state of the machine as plain data: the processor record of spec/10_state.md (R30 to
R46), the host's memory (spec/20_memory.md R70), the model's marks (R47), and the data through which the
host acts on the core (spec/60_exceptions.md R721): its pending calls, its memory's and ports' answers, its trap hook. -/

namespace Sys2Proof.Machine

/-- The interrupt modes (R43). No other value can be written. -/
inductive IntMode where
  | mode0 | mode1 | mode2
  deriving DecidableEq, Repr

/-- The processor state: exactly the fields of R31 to R46 (R30, R50), each with a value always (R31). -/
structure Cpu where
  -- working registers (R32); a pair is the view of its two halves
  a : Byte
  f : Byte
  b : Byte
  c : Byte
  d : Byte
  e : Byte
  h : Byte
  l : Byte
  -- shadow pairs (R33)
  afShadow : Word
  bcShadow : Word
  deShadow : Word
  hlShadow : Word
  -- index registers, stack pointer, program counter (R34 to R36)
  ix : Word
  iy : Word
  sp : Word
  pc : Word
  -- interrupt vector and refresh registers (R40, R41)
  i : Byte
  r : Byte
  -- interrupt flip-flops and mode (R42, R43)
  iff1 : Bool
  iff2 : Bool
  im : IntMode
  -- the interrupt enable delay, 0 to 2 (R44), the halted bit (R45), the cycle counter (R46)
  eiDelay : Fin 3
  halted : Bool
  cycles : Nat
  deriving DecidableEq, Repr

/-- The processor after reset: "stack pointer = 0xFFFF, accumulator = 0xFF, all other fields zero" (R51, R800). -/
def Cpu.reset : Cpu where
  a := 0xFF
  f := 0x00
  b := 0x00
  c := 0x00
  d := 0x00
  e := 0x00
  h := 0x00
  l := 0x00
  afShadow := 0x0000
  bcShadow := 0x0000
  deShadow := 0x0000
  hlShadow := 0x0000
  ix := 0x0000
  iy := 0x0000
  sp := 0xFFFF
  pc := 0x0000
  i := 0x00
  r := 0x00
  iff1 := false
  iff2 := false
  im := .mode0
  eiDelay := 0
  halted := false
  cycles := 0

/-- The host's memory: bytes by address, addresses strictly rising, no entry equal to what an unlisted
address reads as (`Memory.wf` in Ops). -/
abbrev Memory := List Host.Cell

/-- What the host does in one memory callback (R70, R78, R721): the core assumes neither what a read answers nor
whether a write takes effect, so a ROM, a mirror or a device is a list of these. The default is plain memory (R82). -/
structure MemReaction where
  /-- The byte a read is answered; none: the byte memory holds. A write has no answer. -/
  answer : Option Byte := none
  /-- The bytes the host stores in its memory, first one first; none: as plain memory does, which stores a written
  byte at its address and nothing on a read. -/
  stores : Option (List (Word × Byte)) := none
  deriving DecidableEq, Repr

/-- One access of the core to the bus (R70, R71, R78) or one consultation of the trap hook (R126). -/
inductive BusAccess where
  | memRead (addr : Word) (v : Byte)
  | memWrite (addr : Word) (v : Byte)
  | portRead (port : Word) (v : Byte)
  | portWrite (port : Word) (v : Byte)
  | trapHook (addr : Word) (op : Byte) (handled : Bool)
  deriving DecidableEq, Repr

/-- What the host does to what it owns (R721): it may replace the processor record and store to memory. -/
structure HostAction where
  /-- The processor record it leaves; none when it leaves the record as it is. -/
  cpu : Option Cpu := none
  /-- The bytes it stores, first one first. -/
  stores : List (Word × Byte) := []
  deriving DecidableEq, Repr

/-- One answer of the host's trap hook (R126): whether it handled the instruction, and what the host did
during the call. -/
structure HookAnswer where
  handled : Bool
  act : HostAction
  deriving DecidableEq, Repr

/-- One thing the host does with the core (R721). The halted query and the diagnostic read change
nothing (R722, R723) and are functions of the state, `isHalted` and `diagnosticRead`. -/
inductive HostCall where
  /-- `Step()` (R112). -/
  | step
  /-- `Interrupt(data)` (R706). -/
  | interrupt (data : Byte)
  /-- `Reset()` (R800). -/
  | reset
  /-- The host's own writes between calls (R721, R82). -/
  | act (action : HostAction)
  deriving DecidableEq, Repr

/-- The record of an illegal opcode (R702). -/
structure IllegalRecord where
  /-- PC at the start of the step. -/
  addr : Word
  /-- The prefix bytes fetched in the step, in order. -/
  prefixes : List Byte
  /-- The offending sub-opcode. -/
  opcode : Byte
  deriving DecidableEq, Repr

/-- Why a step stops with a fault (R700). -/
inductive Fault where
  /-- `IllegalOpcode(info)`: raised by every step and interrupt call made while the fault mark stands (R703).
  The step that meets the illegal opcode itself is a next state: its mark is set and its processor record is
  the one before the step (R702). Safe: the run has ended there (R724). -/
  | illegalOpcode (info : IllegalRecord)
  /-- `Hang`: raised by a step that meets an endless chain of DD/FD prefixes, which never returns (R121).
  Safe: the spec's own outcome, and no next state exists. -/
  | hang
  deriving DecidableEq, Repr

/-- Why a step is refused (R704). -/
inductive Refusal where
  /-- An instruction that has no meaning in exec yet. Safe. No arm of exec raises it. -/
  | notModelled (mnemonic : String)
  /-- `Mode0DataNotAdmitted(data)`: raised by every step and interrupt call made while the refused mark stands
  (R703). The refused interrupt call itself is a next state: nothing but its mark changes (R704). Safe: the spec
  gives the case no meaning, and the run has ended there (R724). -/
  | mode0DataNotAdmitted (data : Byte)
  deriving DecidableEq, Repr

/-- What a step or interrupt call returns to the host (R13, R700). A call that does not return is `Fault.hang`. -/
inductive CallResult where
  | ok (cycles : Nat)
  | illegalOpcode (info : IllegalRecord)
  | refused (reason : Refusal)
  deriving DecidableEq, Repr

/-- The whole machine. `cpu` is the processor record, `mem` the host's memory, the marks are R47's; the
rest is the model's own: the parameters, the host as data, and what the last call made and returned. -/
structure State where
  cpu : Cpu
  mem : Memory
  /-- The `Fault` mark (R47, R703). -/
  faultMark : Option IllegalRecord
  /-- The `Refused` mark (R47, R703). -/
  refusedMark : Option Refusal
  /-- The OPEN parameters (R8); no step changes them. -/
  params : Params
  /-- What the host does next, first one first; when empty, the host calls `Step()` again and again. -/
  calls : List HostCall
  /-- The trap hook (R126): none when the host supplies none; otherwise its coming answers, first one
  first, and when they are used up it reports "not handled" and does nothing. -/
  hook : Option (List HookAnswer)
  /-- How the host serves the coming memory accesses, reads and writes alike, one entry each, first one first; when
  used up, memory is plain (log entry 5). -/
  memHost : List MemReaction
  /-- The answers the host's ports give to the coming port reads, first one first; when used up, an
  answer is a free value. -/
  portIn : List Byte
  /-- The accesses of the last call, in reverse: the latest one first (R7, R78). -/
  bus : List BusAccess
  /-- The cycle delta of the last call, the value its `Ok(cycles)` carries (R13, R808). -/
  delta : Nat
  /-- The processor record at the start of the last step: the `s0` of R112. -/
  start : Cpu
  /-- The DD and FD prefixes the last step has passed over by fallback, in order (R110, R121, R702). -/
  chain : List Byte
  /-- The opcode a DD or FD prefix has fallen back to, fetched and not yet executed (R110); none between calls. -/
  pending : Option Byte
  /-- How many free values have been drawn. -/
  draws : Nat
  deriving DecidableEq, Repr

/-- The machine right after reset (R51, R800): the processor's reset record, no marks, the default
parameters (R8), memory with nothing listed, and a host that supplies plain memory, no hook and no script. -/
def State.reset : State where
  cpu := Cpu.reset
  mem := []
  faultMark := none
  refusedMark := none
  params := {}
  calls := []
  hook := none
  memHost := []
  portIn := []
  bus := []
  delta := 0
  start := Cpu.reset
  chain := []
  pending := none
  draws := 0

/-- What the last step or interrupt call returned (R700): a recorded outcome is returned again (R703). -/
def State.result (s : State) : CallResult :=
  match s.faultMark, s.refusedMark with
  | some r, _ => .illegalOpcode r
  | none, some r => .refused r
  | none, none => .ok s.delta

/-- What a meaning answers. -/
abbrev Res := Host.Outcome State Fault Refusal

end Sys2Proof.Machine
end

