-- ==== Sys2Proof/Machine/Ops.lean ====
section
/-! DEFINITION. The named operations over memory, ports, registers and the stack (spec/20_memory.md,
spec/10_state.md), the fetches (spec/30_encoding.md R113, R114), taking the
illegal-opcode exception, the end-of-step countdown, and taking a maskable interrupt with the return from one
(spec/60_exceptions.md R702, R706 to R711, R714). -/

namespace Sys2Proof.Machine

-- Memory as a canonical list of cells

/-- What a byte of memory that nothing has written reads as (log entry 4). -/
def Memory.unlisted : Byte := 0x00

/-- The byte of memory at an address. -/
def Memory.read : Memory → Nat → Byte
  | [], _ => Memory.unlisted
  | (b, w) :: m, a => if b = a then w else Memory.read m a

/-- The memory without an entry for an address. -/
def Memory.erase (m : Memory) (a : Nat) : Memory := m.filter (fun cell => cell.1 != a)

/-- The memory with a new entry before the first entry of a higher address. -/
def Memory.insert (a : Nat) (v : Byte) : Memory → Memory
  | [] => [(a, v)]
  | (b, w) :: m => if a < b then (a, v) :: (b, w) :: m else (b, w) :: Memory.insert a v m

/-- Store a byte: the value an unlisted address reads as leaves no entry, so the form stays canonical. -/
def Memory.write (m : Memory) (a : Nat) (v : Byte) : Memory :=
  if v = Memory.unlisted then m.erase a else Memory.insert a v (m.erase a)

/-- Store bytes, first one first. -/
def Memory.storeAll (m : Memory) (stores : List (Word × Byte)) : Memory :=
  stores.foldl (fun m x => m.write x.1.toNat x.2) m

/-- The canonical form: addresses strictly rising, all inside the 16-bit space (R70), and no entry that an
unlisted address would read as. -/
def Memory.wf (m : Memory) : Bool :=
  decide (m.Pairwise (fun x y => x.1 < y.1)) && m.all (fun cell => decide (cell.1 < 65536) && cell.2 != Memory.unlisted)

-- Registers: the pairs are views of their halves (R32)

/-- Sign extension of a displacement or relative offset (R10). -/
def sext (d : Byte) : Word := d.signExtend 16

/-- Whether a byte is one of the four prefixes (R100). -/
def isPrefix (op : Byte) : Bool := op == 0xCB || op == 0xDD || op == 0xED || op == 0xFD

/-- One increment of R: bit 7 is kept, the other seven count (R41). -/
def incR (r : Byte) : Byte := (r &&& 0x80) ||| ((r + 1) &&& 0x7F)

namespace Cpu

def af (u : Cpu) : Word := wordOf u.a u.f
def bc (u : Cpu) : Word := wordOf u.b u.c
def de (u : Cpu) : Word := wordOf u.d u.e
def hl (u : Cpu) : Word := wordOf u.h u.l

def setAf (u : Cpu) (v : Word) : Cpu := { u with a := hiByte v, f := loByte v }
def setBc (u : Cpu) (v : Word) : Cpu := { u with b := hiByte v, c := loByte v }
def setDe (u : Cpu) (v : Word) : Cpu := { u with d := hiByte v, e := loByte v }
def setHl (u : Cpu) (v : Word) : Cpu := { u with h := hiByte v, l := loByte v }

/-- The flags F holds (R37). -/
def flags (u : Cpu) : Flags := Flags.ofByte u.f

/-- Write all of F (R38: an instruction that keeps a flag passes on its old value). -/
def setFlags (u : Cpu) (g : Flags) : Cpu := { u with f := g.toByte }

/-- The 8-bit register a code names (R48). -/
def r8 (u : Cpu) : R8 → Byte
  | .b => u.b | .c => u.c | .d => u.d | .e => u.e | .h => u.h | .l => u.l | .a => u.a

def setR8 (u : Cpu) (r : R8) (v : Byte) : Cpu :=
  match r with
  | .b => { u with b := v } | .c => { u with c := v } | .d => { u with d := v }
  | .e => { u with e := v } | .h => { u with h := v } | .l => { u with l := v }
  | .a => { u with a := v }

/-- The pair an `rp` code names (R49). -/
def rp (u : Cpu) : Rp → Word
  | .bc => u.bc | .de => u.de | .hl => u.hl | .sp => u.sp

def setRp (u : Cpu) (p : Rp) (v : Word) : Cpu :=
  match p with
  | .bc => u.setBc v | .de => u.setDe v | .hl => u.setHl v | .sp => { u with sp := v }

/-- The pair an `rp2` code names (R49). -/
def rp2 (u : Cpu) : Rp2 → Word
  | .bc => u.bc | .de => u.de | .hl => u.hl | .af => u.af

def setRp2 (u : Cpu) (p : Rp2) (v : Word) : Cpu :=
  match p with
  | .bc => u.setBc v | .de => u.setDe v | .hl => u.setHl v | .af => u.setAf v

/-- An index register (R34). -/
def xy (u : Cpu) : Xy → Word
  | .ix => u.ix | .iy => u.iy

def setXy (u : Cpu) (x : Xy) (v : Word) : Cpu :=
  match x with
  | .ix => { u with ix := v } | .iy => { u with iy := v }

/-- The pair a `pp` code names under the prefix of `x` (R49). -/
def pp (u : Cpu) (x : Xy) : Pp → Word
  | .bc => u.bc | .de => u.de | .xy => u.xy x | .sp => u.sp

/-- The indexed effective address (R105). -/
def ea (u : Cpu) (x : Xy) (d : Byte) : Word := u.xy x + sext d

end Cpu

namespace State

/-- Apply a change of the processor record alone. -/
def onCpu (s : State) (g : Cpu → Cpu) : State := { s with cpu := g s.cpu }

/-- `cycles += k` (R11, R808): the delta of the call, which its end adds to the cycle counter. -/
def charge (s : State) (k : Nat) : State := { s with delta := s.delta + k }

/-- An instruction has completed, at the cost of `k` cycles. -/
def done (s : State) (k : Nat) : Res := .next (s.charge k)

/-- Record a bus access (R78). -/
def logged (s : State) (x : BusAccess) : State := { s with bus := x :: s.bus }

/-- The byte memory holds at an address, looked at without an access. -/
def byteAt (s : State) (addr : Word) : Byte := s.mem.read addr.toNat

/-- How the host serves the next memory access (log entry 5). -/
def nextReaction (s : State) : MemReaction := s.memHost.headD {}

/-- The host has served a memory access: its stores are made, and the next access meets its next reaction. -/
def served (s : State) (stores : List (Word × Byte)) (x : BusAccess) : State :=
  { s with mem := s.mem.storeAll stores, memHost := s.memHost.tail, bus := x :: s.bus }

/-- The byte a read of an address is answered. -/
def answerAt (s : State) (addr : Word) : Byte := s.nextReaction.answer.getD (s.byteAt addr)

/-- `MemRead(addr)` (R70, R721): the host's answer, or what memory holds. -/
def memRead (s : State) (addr : Word) : Byte × State :=
  (s.answerAt addr, s.served (s.nextReaction.stores.getD []) (.memRead addr (s.answerAt addr)))

/-- `MemWrite(addr, v)` (R70, R721): the host stores the byte, or does with it what it will. -/
def memWrite (s : State) (addr : Word) (v : Byte) : State :=
  s.served (s.nextReaction.stores.getD [(addr, v)]) (.memWrite addr v)

/-- `MemRead(addr, 2)` (R73): little-endian, low byte first. -/
def memRead16 (s : State) (addr : Word) : Word × State :=
  let (lo, s) := s.memRead addr
  let (hi, s) := s.memRead (addr + 1)
  (wordOf hi lo, s)

/-- `MemWrite(addr, 2, v)` (R73): little-endian, low byte first. -/
def memWrite16 (s : State) (addr : Word) (v : Word) : State :=
  (s.memWrite addr (loByte v)).memWrite (addr + 1) (hiByte v)

/-- A draw (R11): a byte about which nothing is known, a fresh one each time. -/
def draw (s : State) : Byte × State :=
  (Config.freeByte s.draws, { s with draws := s.draws + 1 })

/-- `PortRead(port)` (R71): the host's answer, free when the state holds none. -/
def portRead (s : State) (port : Word) : Byte × State :=
  match s.portIn with
  | v :: rest => (v, { s with portIn := rest, bus := .portRead port v :: s.bus })
  | [] =>
    let v := Config.portAnswer s.draws port
    (v, { s with draws := s.draws + 1, bus := .portRead port v :: s.bus })

/-- `PortWrite(port, v)` (R71). -/
def portWrite (s : State) (port : Word) (v : Byte) : State := s.logged (.portWrite port v)

/-- The port address of IN A,(n) and OUT (n),A (R71). -/
def immPort (s : State) (n : Byte) : Word :=
  match s.params.portHighImm with
  | .zero => wordOf 0x00 n
  | .a => wordOf s.cpu.a n

-- The stack (R75)

/-- `Push(v)`: high byte first, at the higher address. -/
def push (s : State) (v : Word) : State :=
  let s := s.onCpu fun u => { u with sp := u.sp - 1 }
  let s := s.memWrite s.cpu.sp (hiByte v)
  let s := s.onCpu fun u => { u with sp := u.sp - 1 }
  s.memWrite s.cpu.sp (loByte v)

/-- `Pop()`: low byte first, from the lower address. -/
def pop (s : State) : Word × State :=
  let (lo, s) := s.memRead s.cpu.sp
  let s := s.onCpu fun u => { u with sp := u.sp + 1 }
  let (hi, s) := s.memRead s.cpu.sp
  let s := s.onCpu fun u => { u with sp := u.sp + 1 }
  (wordOf hi lo, s)

-- Control transfer

/-- `PC <- target`. -/
def jump (s : State) (target : Word) : State := s.onCpu fun u => { u with pc := target }

/-- The relative target: PC is past the instruction (R104). -/
def jumpRel (s : State) (e : Byte) : State := s.jump (s.cpu.pc + sext e)

/-- `Push(PC); PC <- target`. -/
def call (s : State) (target : Word) : State := (s.push s.cpu.pc).jump target

/-- `PC <- Pop()`. -/
def popPc (s : State) : State :=
  let (v, s) := s.pop
  s.jump v

-- Fetching (R113, R114)

/-- An opcode fetch: PC and R advance (R113). -/
def fetchOp (s : State) : Byte × State :=
  let (v, s) := s.memRead s.cpu.pc
  (v, s.onCpu fun u => { u with pc := u.pc + 1, r := incR u.r })

/-- An operand fetch: PC advances, R does not (R114). -/
def fetchByte (s : State) : Byte × State :=
  let (v, s) := s.memRead s.cpu.pc
  (v, s.onCpu fun u => { u with pc := u.pc + 1 })

/-- `n` operand fetches, with the bytes in order (R74). -/
def fetchBytes (s : State) : Nat → List Byte × State
  | 0 => ([], s)
  | n + 1 =>
    let (v, s) := s.fetchByte
    let (vs, s) := s.fetchBytes n
    (v :: vs, s)

/-- Fetch and decode the rest of an instruction whose first byte `op` has been fetched (R112): the byte after a prefix
is an opcode fetch, every other one an operand fetch (R113). The bytes fetched so far tell the length (R118), and every
byte is fetched once, so that the instruction is the one the host's answers spell (R78, R79). -/
def fetchInstr (s : State) (op : Byte) : Instr × State :=
  if isPrefix op then
    let (sub, s) := s.fetchOp
    let (bs, s) := s.fetchBytes ((decodeBytes op sub 0 0).2 - 2)
    ((decodeBytes op sub (bs.getD 0 0) (bs.getD 1 0)).1, s)
  else
    let (bs, s) := s.fetchBytes ((decodeBytes op 0 0 0).2 - 1)
    ((decodeBytes op (bs.getD 0 0) (bs.getD 1 0) (bs.getD 2 0)).1, s)

-- The illegal-opcode exception (R702)

/-- Taking `IllegalOpcode`, the one synchronous exception (R115, R700, R702): the processor record returns to the
one before the step, the step costs nothing, and the fault mark records PC at the start of the step, the prefixes
fetched in it and the offending sub-opcode. No vector, no saved register: the outcome goes to the host. -/
def raiseIllegal (s : State) (op : Byte) : State :=
  { s with
    cpu := s.start
    delta := 0
    faultMark := some { addr := s.start.pc, prefixes := s.chain ++ [0xED], opcode := op } }

-- The EI delay

/-- The end-of-step countdown (R707). -/
def countdown (s : State) : State :=
  s.onCpu fun u =>
    if u.eiDelay = 0 then u
    else if u.eiDelay = 1 then { u with eiDelay := 0, iff1 := true, iff2 := true }
    else { u with eiDelay := 1 }

-- Taking a maskable interrupt, and the return from one

/-- What accepting an interrupt changes before its mode's own effect (R706, R711): IFF1, IFF2 where the
parameter says so, and the halted bit. Nothing but PC is saved, and that by the mode's own push. -/
def acknowledge (s : State) : State :=
  s.onCpu fun u =>
    { u with iff1 := false, iff2 := if s.params.intAckClearsIff2 then false else u.iff2, halted := false }

/-- Mode 1 (R709): push PC, jump to the fixed vector, 13 cycles. -/
def takeMode1 (s : State) : State := (s.call 0x0038).charge 13

/-- Mode 2 (R710): push PC, then read the handler's address from the table entry at I:data with its low
bit cleared, 19 cycles. -/
def takeMode2 (s : State) (data : Byte) : State :=
  let s := s.push s.cpu.pc
  let (target, s) := s.memRead16 (wordOf s.cpu.i data &&& 0xFFFE)
  (s.jump target).charge 19

/-- The beginning of mode 0 (R708): the data byte counts as an opcode fetch, but PC does not advance; 11
cycles, to which the executed opcode adds its own. -/
def openMode0 (s : State) : State :=
  (s.onCpu fun u => { u with r := incR u.r }).charge 11

/-- The return from an interrupt (R611, R612, R714): `PC <- Pop(); IFF1 <- IFF2`. -/
def returnFromInterrupt (s : State) : State :=
  s.popPc.onCpu fun u => { u with iff1 := u.iff2 }

end State

end Sys2Proof.Machine
end

