-- ==== Sys2Proof/Machine/Operands.lean ====
section
/-! DEFINITION. The 8-bit operands of spec/30_encoding.md R122 with their reads and writes, and the shapes of
instruction the families share: each takes the operands and the base cost of spec/70_reset_and_hazards.md (R810 to
R814) and runs on the state after the fetch, in which PC is past the instruction (R36). -/

namespace Sys2Proof.Machine

/-- An 8-bit operand that can be read and written (R122). -/
inductive Place where
  | reg (r : R8)
  | xyHigh (x : Xy)
  | xyLow (x : Xy)
  | atHl
  | indexed (x : Xy) (d : Byte)
  deriving DecidableEq, Repr

namespace Place

/-- Read an operand (R122). -/
def read (p : Place) (s : State) : Byte × State :=
  match p with
  | .reg r => (s.cpu.r8 r, s)
  | .xyHigh x => (hiByte (s.cpu.xy x), s)
  | .xyLow x => (loByte (s.cpu.xy x), s)
  | .atHl => s.memRead s.cpu.hl
  | .indexed x d => s.memRead (s.cpu.ea x d)

/-- Write an operand (R122); a half of an index register leaves the other half (R34). -/
def write (p : Place) (v : Byte) (s : State) : State :=
  match p with
  | .reg r => s.onCpu fun u => u.setR8 r v
  | .xyHigh x => s.onCpu fun u => u.setXy x (wordOf v (loByte (u.xy x)))
  | .xyLow x => s.onCpu fun u => u.setXy x (wordOf (hiByte (u.xy x)) v)
  | .atHl => s.memWrite s.cpu.hl v
  | .indexed x d => s.memWrite (s.cpu.ea x d) v

end Place

/-- `dst <- src`. -/
def moveByte (dst src : Place) (cost : Nat) (s : State) : Res :=
  let (v, s) := src.read s
  (dst.write v s).done cost

/-- `dst <- n`. -/
def setByte (dst : Place) (n : Byte) (cost : Nat) (s : State) : Res := (dst.write n s).done cost

/-- `A <- MemRead(addr)`. -/
def loadA (addr : Word) (cost : Nat) (s : State) : Res :=
  let (v, s) := s.memRead addr
  (s.onCpu fun u => { u with a := v }).done cost

/-- `MemWrite(addr, A)`. -/
def storeA (addr : Word) (cost : Nat) (s : State) : Res := (s.memWrite addr s.cpu.a).done cost

/-- A load of A from I or R with its flags (R314, R315). -/
def loadAFrom (v : Byte) (cost : Nat) (s : State) : Res :=
  (s.onCpu fun u => { u with a := v }.setFlags (loadedFlags v u.iff2 u.flags)).done cost

/-- An accumulator operation on an operand value (R420 to R427). -/
def aluValue (op : AluOp) (v : Byte) (cost : Nat) (s : State) : Res :=
  (s.onCpu fun u =>
    let (a, g) := alu8 op u.a v u.flags
    { u with a := a }.setFlags g).done cost

/-- An accumulator operation on an operand that is read once. -/
def aluPlace (op : AluOp) (p : Place) (cost : Nat) (s : State) : Res :=
  let (v, s) := p.read s
  aluValue op v cost s

/-- A change of A and F alone, from A and the flags. -/
def onA (f : Byte → Flags → Byte × Flags) (cost : Nat) (s : State) : Res :=
  (s.onCpu fun u =>
    let (a, g) := f u.a u.flags
    { u with a := a }.setFlags g).done cost

/-- A read-modify-write with flags: one read, one write of the same operand (R122, R84). -/
def modify (f : Byte → Flags → Byte × Flags) (p : Place) (cost : Nat) (s : State) : Res :=
  let (v, s) := p.read s
  let (r, g) := f v s.cpu.flags
  (p.write r (s.onCpu fun u => u.setFlags g)).done cost

/-- A read-modify-write that keeps the flags. -/
def modifyKeep (f : Byte → Byte) (p : Place) (cost : Nat) (s : State) : Res :=
  let (v, s) := p.read s
  (p.write (f v) s).done cost

/-- A read-modify-write of an indexed byte with flags and the copy of the result into a register, 23 cycles
(R552, R814). -/
def modifyCopy (f : Byte → Flags → Byte × Flags) (x : Xy) (d : Byte) (r : R8) (s : State) : Res :=
  let (v, s) := (Place.indexed x d).read s
  let (v', g) := f v s.cpu.flags
  let s := (Place.indexed x d).write v' s
  (s.onCpu fun u => (u.setFlags g).setR8 r v').done 23

/-- A read-modify-write of an indexed byte that keeps the flags, with the copy, 23 cycles (R559, R561, R814). -/
def modifyKeepCopy (f : Byte → Byte) (x : Xy) (d : Byte) (r : R8) (s : State) : Res :=
  let (v, s) := (Place.indexed x d).read s
  let s := (Place.indexed x d).write (f v) s
  (s.onCpu fun u => u.setR8 r (f v)).done 23

/-- A bit test of a byte in memory: bits 5 and 3 of F are draws (R217, R556, R557). -/
def testMemBit (b : BitVec 3) (p : Place) (cost : Nat) (s : State) : Res :=
  let (v, s) := p.read s
  let (k, s) := s.draw
  (s.onCpu fun u => u.setFlags (bitFlags b v (k.getLsbD 5) (k.getLsbD 3) u.flags)).done cost

-- Block instructions (R385)

/-- The step `Exec<X>` of a repeating block instruction has been done: rewind PC to the 0xED prefix when it
continues, at 5 cycles more (R385, R809). -/
def repeatWhile (continues : Bool) (s : State) : Res :=
  if continues then (s.onCpu fun u => { u with pc := u.pc - 2 }).done 21 else s.done 16

/-- One block transfer; `delta` is 1 or −1 (R386, R388). -/
def blockLd (delta : Word) (s : State) : State :=
  let (v, s) := s.memRead s.cpu.hl
  let s := s.memWrite s.cpu.de v
  s.onCpu fun u =>
    (((u.setHl (u.hl + delta)).setDe (u.de + delta)).setBc (u.bc - 1)).setFlags
      (blockLdFlags u.a v (u.bc - 1) u.flags)

/-- One block compare; `delta` is 1 or −1 (R390, R392). -/
def blockCp (delta : Word) (s : State) : State :=
  let (v, s) := s.memRead s.cpu.hl
  s.onCpu fun u =>
    ((u.setHl (u.hl + delta)).setBc (u.bc - 1)).setFlags (blockCpFlags u.a v (u.bc - 1) u.flags)

/-- One block input: the port is BC before B is decremented; `delta` is 1 or −1 (R652, R654). -/
def blockIn (delta : Word) (s : State) : State :=
  let (v, s) := s.portRead s.cpu.bc
  let s := s.memWrite s.cpu.hl v
  let (k, s) := s.draw
  s.onCpu fun u =>
    { (u.setHl (u.hl + delta)) with b := u.b - 1 }.setFlags (blockIoFlags k (u.b - 1))

/-- One block output: the port is BC after B is decremented; `delta` is 1 or −1 (R658, R660). -/
def blockOut (delta : Word) (s : State) : State :=
  let (v, s) := s.memRead s.cpu.hl
  let s := s.onCpu fun u => { u with b := u.b - 1 }
  let s := s.portWrite s.cpu.bc v
  let (k, s) := s.draw
  s.onCpu fun u => (u.setHl (u.hl + delta)).setFlags (blockIoFlags k u.b)

/-- Whether LDIR and LDDR continue: BC ≠ 0 after the step (R385). -/
def ldContinues (s : State) : Bool := s.cpu.bc != 0

/-- Whether CPIR and CPDR continue: BC ≠ 0 and no match after the step (R385). -/
def cpContinues (s : State) : Bool := s.cpu.bc != 0 && !s.cpu.flags.z

/-- Whether the repeating I/O instructions continue: B ≠ 0 after the step (R385). -/
def ioContinues (s : State) : Bool := s.cpu.b != 0

-- 16-bit shapes

/-- `(dst, flags) <- f(dst, src, flags)` on HL. -/
def onHl (f : Word → Word → Flags → Word × Flags) (v : Word) (cost : Nat) (s : State) : Res :=
  (s.onCpu fun u =>
    let (r, g) := f u.hl v u.flags
    (u.setHl r).setFlags g).done cost

/-- The same on an index register. -/
def onXy (f : Word → Word → Flags → Word × Flags) (x : Xy) (v : Word) (cost : Nat) (s : State) : Res :=
  (s.onCpu fun u =>
    let (r, g) := f (u.xy x) v u.flags
    (u.setXy x r).setFlags g).done cost

/-- A change of the processor record alone. -/
def cpuOnly (g : Cpu → Cpu) (cost : Nat) (s : State) : Res := (s.onCpu g).done cost

/-- `put(MemRead(nn, 2))`. -/
def loadWord (put : Cpu → Word → Cpu) (nn : Word) (cost : Nat) (s : State) : Res :=
  let (v, s) := s.memRead16 nn
  (s.onCpu fun u => put u v).done cost

/-- `MemWrite(nn, 2, v)`. -/
def storeWord (nn v : Word) (cost : Nat) (s : State) : Res := (s.memWrite16 nn v).done cost

/-- `put(Pop())`. -/
def popTo (put : Cpu → Word → Cpu) (cost : Nat) (s : State) : Res :=
  let (v, s) := s.pop
  (s.onCpu fun u => put u v).done cost

/-- Exchange of a pair with the word at the top of the stack: both reads, then both writes, low byte first in
each (R383). -/
def exchangeTop (v : Word) (put : Cpu → Word → Cpu) (cost : Nat) (s : State) : Res :=
  let (w, s) := s.memRead16 s.cpu.sp
  let s := s.memWrite16 s.cpu.sp v
  (s.onCpu fun u => put u w).done cost

end Sys2Proof.Machine
end

