-- ==== Sys2Proof/Machine/Arith16.lean ====
section
/-! DEFINITION. 16-bit arithmetic (spec/46_arith16.md R500 to R507).
One definition per instruction, on the state after the fetch. -/

namespace Sys2Proof.Machine

/-- ADD HL,rp (R500). -/
def execAddHlRp (p : Rp) (s : State) : Res := onHl add16 (s.cpu.rp p) 11 s

/-- ADC HL,rp (R501). -/
def execAdcHlRp (p : Rp) (s : State) : Res := onHl (fun a b g => adc16 a b g.c) (s.cpu.rp p) 15 s

/-- SBC HL,rp (R502). -/
def execSbcHlRp (p : Rp) (s : State) : Res := onHl (fun a b g => sbc16 a b g.c) (s.cpu.rp p) 15 s

/-- ADD xy,pp (R503). -/
def execAddXyPp (x : Xy) (p : Pp) (s : State) : Res := onXy add16 x (s.cpu.pp x p) 15 s

/-- INC rp (R504). -/
def execIncRp (p : Rp) (s : State) : Res := cpuOnly (fun u => u.setRp p (u.rp p + 1)) 6 s

/-- INC xy (R505). -/
def execIncXy (x : Xy) (s : State) : Res := cpuOnly (fun u => u.setXy x (u.xy x + 1)) 10 s

/-- DEC rp (R506). -/
def execDecRp (p : Rp) (s : State) : Res := cpuOnly (fun u => u.setRp p (u.rp p - 1)) 6 s

/-- DEC xy (R507). -/
def execDecXy (x : Xy) (s : State) : Res := cpuOnly (fun u => u.setXy x (u.xy x - 1)) 10 s

end Sys2Proof.Machine
end

