-- ==== Sys2Proof/Machine/Arith8.lean ====
section
/-! DEFINITION. 8-bit arithmetic and logic (spec/44_arith8.md R420 to R433).
One definition per instruction, on the state after the fetch. -/

namespace Sys2Proof.Machine

/-- ADD A,r (R420). -/
def execAddAR (r : R8) (s : State) : Res := aluPlace .add (.reg r) 4 s

/-- ADD A,(HL) (R420). -/
def execAddAMhl (s : State) : Res := aluPlace .add .atHl 7 s

/-- ADD A,n (R420). -/
def execAddAN (n : Byte) (s : State) : Res := aluValue .add n 7 s

/-- ADD A,xyH (R420). -/
def execAddAXyh (x : Xy) (s : State) : Res := aluPlace .add (.xyHigh x) 8 s

/-- ADD A,xyL (R420). -/
def execAddAXyl (x : Xy) (s : State) : Res := aluPlace .add (.xyLow x) 8 s

/-- ADD A,(xy+d) (R420). -/
def execAddAMxyd (x : Xy) (d : Byte) (s : State) : Res := aluPlace .add (.indexed x d) 19 s

/-- ADC A,r (R421). -/
def execAdcAR (r : R8) (s : State) : Res := aluPlace .adc (.reg r) 4 s

/-- ADC A,(HL) (R421). -/
def execAdcAMhl (s : State) : Res := aluPlace .adc .atHl 7 s

/-- ADC A,n (R421). -/
def execAdcAN (n : Byte) (s : State) : Res := aluValue .adc n 7 s

/-- ADC A,xyH (R421). -/
def execAdcAXyh (x : Xy) (s : State) : Res := aluPlace .adc (.xyHigh x) 8 s

/-- ADC A,xyL (R421). -/
def execAdcAXyl (x : Xy) (s : State) : Res := aluPlace .adc (.xyLow x) 8 s

/-- ADC A,(xy+d) (R421). -/
def execAdcAMxyd (x : Xy) (d : Byte) (s : State) : Res := aluPlace .adc (.indexed x d) 19 s

/-- SUB r (R422). -/
def execSubR (r : R8) (s : State) : Res := aluPlace .sub (.reg r) 4 s

/-- SUB (HL) (R422). -/
def execSubMhl (s : State) : Res := aluPlace .sub .atHl 7 s

/-- SUB n (R422). -/
def execSubN (n : Byte) (s : State) : Res := aluValue .sub n 7 s

/-- SUB xyH (R422). -/
def execSubXyh (x : Xy) (s : State) : Res := aluPlace .sub (.xyHigh x) 8 s

/-- SUB xyL (R422). -/
def execSubXyl (x : Xy) (s : State) : Res := aluPlace .sub (.xyLow x) 8 s

/-- SUB (xy+d) (R422). -/
def execSubMxyd (x : Xy) (d : Byte) (s : State) : Res := aluPlace .sub (.indexed x d) 19 s

/-- SBC A,r (R423). -/
def execSbcAR (r : R8) (s : State) : Res := aluPlace .sbc (.reg r) 4 s

/-- SBC A,(HL) (R423). -/
def execSbcAMhl (s : State) : Res := aluPlace .sbc .atHl 7 s

/-- SBC A,n (R423). -/
def execSbcAN (n : Byte) (s : State) : Res := aluValue .sbc n 7 s

/-- SBC A,xyH (R423). -/
def execSbcAXyh (x : Xy) (s : State) : Res := aluPlace .sbc (.xyHigh x) 8 s

/-- SBC A,xyL (R423). -/
def execSbcAXyl (x : Xy) (s : State) : Res := aluPlace .sbc (.xyLow x) 8 s

/-- SBC A,(xy+d) (R423). -/
def execSbcAMxyd (x : Xy) (d : Byte) (s : State) : Res := aluPlace .sbc (.indexed x d) 19 s

/-- AND r (R424). -/
def execAndR (r : R8) (s : State) : Res := aluPlace .and (.reg r) 4 s

/-- AND (HL) (R424). -/
def execAndMhl (s : State) : Res := aluPlace .and .atHl 7 s

/-- AND n (R424). -/
def execAndN (n : Byte) (s : State) : Res := aluValue .and n 7 s

/-- AND xyH (R424). -/
def execAndXyh (x : Xy) (s : State) : Res := aluPlace .and (.xyHigh x) 8 s

/-- AND xyL (R424). -/
def execAndXyl (x : Xy) (s : State) : Res := aluPlace .and (.xyLow x) 8 s

/-- AND (xy+d) (R424). -/
def execAndMxyd (x : Xy) (d : Byte) (s : State) : Res := aluPlace .and (.indexed x d) 19 s

/-- XOR r (R425). -/
def execXorR (r : R8) (s : State) : Res := aluPlace .xor (.reg r) 4 s

/-- XOR (HL) (R425). -/
def execXorMhl (s : State) : Res := aluPlace .xor .atHl 7 s

/-- XOR n (R425). -/
def execXorN (n : Byte) (s : State) : Res := aluValue .xor n 7 s

/-- XOR xyH (R425). -/
def execXorXyh (x : Xy) (s : State) : Res := aluPlace .xor (.xyHigh x) 8 s

/-- XOR xyL (R425). -/
def execXorXyl (x : Xy) (s : State) : Res := aluPlace .xor (.xyLow x) 8 s

/-- XOR (xy+d) (R425). -/
def execXorMxyd (x : Xy) (d : Byte) (s : State) : Res := aluPlace .xor (.indexed x d) 19 s

/-- OR r (R426). -/
def execOrR (r : R8) (s : State) : Res := aluPlace .or (.reg r) 4 s

/-- OR (HL) (R426). -/
def execOrMhl (s : State) : Res := aluPlace .or .atHl 7 s

/-- OR n (R426). -/
def execOrN (n : Byte) (s : State) : Res := aluValue .or n 7 s

/-- OR xyH (R426). -/
def execOrXyh (x : Xy) (s : State) : Res := aluPlace .or (.xyHigh x) 8 s

/-- OR xyL (R426). -/
def execOrXyl (x : Xy) (s : State) : Res := aluPlace .or (.xyLow x) 8 s

/-- OR (xy+d) (R426). -/
def execOrMxyd (x : Xy) (d : Byte) (s : State) : Res := aluPlace .or (.indexed x d) 19 s

/-- CP r (R427). -/
def execCpR (r : R8) (s : State) : Res := aluPlace .cp (.reg r) 4 s

/-- CP (HL) (R427). -/
def execCpMhl (s : State) : Res := aluPlace .cp .atHl 7 s

/-- CP n (R427). -/
def execCpN (n : Byte) (s : State) : Res := aluValue .cp n 7 s

/-- CP xyH (R427). -/
def execCpXyh (x : Xy) (s : State) : Res := aluPlace .cp (.xyHigh x) 8 s

/-- CP xyL (R427). -/
def execCpXyl (x : Xy) (s : State) : Res := aluPlace .cp (.xyLow x) 8 s

/-- CP (xy+d) (R427). -/
def execCpMxyd (x : Xy) (d : Byte) (s : State) : Res := aluPlace .cp (.indexed x d) 19 s

/-- INC r (R428). -/
def execIncR (r : R8) (s : State) : Res := modify inc8 (.reg r) 4 s

/-- INC xyH (R428). -/
def execIncXyh (x : Xy) (s : State) : Res := modify inc8 (.xyHigh x) 8 s

/-- INC xyL (R428). -/
def execIncXyl (x : Xy) (s : State) : Res := modify inc8 (.xyLow x) 8 s

/-- INC (HL) (R429). -/
def execIncMhl (s : State) : Res := modify inc8 .atHl 11 s

/-- INC (xy+d) (R430). -/
def execIncMxyd (x : Xy) (d : Byte) (s : State) : Res := modify inc8 (.indexed x d) 23 s

/-- DEC r (R431). -/
def execDecR (r : R8) (s : State) : Res := modify dec8 (.reg r) 4 s

/-- DEC xyH (R431). -/
def execDecXyh (x : Xy) (s : State) : Res := modify dec8 (.xyHigh x) 8 s

/-- DEC xyL (R431). -/
def execDecXyl (x : Xy) (s : State) : Res := modify dec8 (.xyLow x) 8 s

/-- DEC (HL) (R432). -/
def execDecMhl (s : State) : Res := modify dec8 .atHl 11 s

/-- DEC (xy+d) (R433). -/
def execDecMxyd (x : Xy) (d : Byte) (s : State) : Res := modify dec8 (.indexed x d) 23 s

end Sys2Proof.Machine
end

