-- ==== Sys2Proof/Machine/Control.lean ====
section
/-! DEFINITION. Accumulator adjust, flag and CPU control (spec/45_control.md R460 to R471), the illegal ED
opcodes (R115) and the DD/FD fallback (R110).
One definition per instruction, on the state after the fetch. -/

namespace Sys2Proof.Machine

/-- A DD or FD prefix whose second byte has no indexed form (R110): the prefix costs 4 (R817) and is
passed over, and `op` is left as an opcode already fetched, which `execPrimary` goes on with in the same step
(R112, R121). -/
def execXyFallback (x : Xy) (op : Byte) (s : State) : Res :=
  ({ s with chain := s.chain ++ [x.prefixByte], pending := some op } : State).done 4

/-- (illegal ED opcode) (R115), raising IllegalOpcode (R702). -/
def execIllegalEd (op : Byte) (s : State) : Res := .next (s.raiseIllegal op)

/-- (illegal ED 70) (R115), raising IllegalOpcode (R702). -/
def execIllegalEd70 (s : State) : Res := .next (s.raiseIllegal 0x70)

/-- (illegal ED 71) (R115), raising IllegalOpcode (R702). -/
def execIllegalEd71 (s : State) : Res := .next (s.raiseIllegal 0x71)

/-- DAA (R460). -/
def execDaa (s : State) : Res := onA Sys2Proof.Machine.daa 4 s

/-- CPL (R461). -/
def execCpl (s : State) : Res := onA (fun a g => (~~~a, { g.xy (~~~a) with h := true, n := true })) 4 s

/-- NEG (R462). -/
def execNeg (s : State) : Res := onA (fun a _ => sub8 0 a false) 8 s

/-- CCF (R463). -/
def execCcf (s : State) : Res := onA (fun a g => (a, { g.xy a with h := g.c, n := false, c := !g.c })) 4 s

/-- SCF (R464). -/
def execScf (s : State) : Res := onA (fun a g => (a, { g.xy a with h := false, n := false, c := true })) 4 s

/-- NOP (R465). -/
def execNop (s : State) : Res := s.done 4

/-- HALT (R466). -/
def execHalt (s : State) : Res := cpuOnly (fun u => { u with halted := true }) 4 s

/-- DI (R467). -/
def execDi (s : State) : Res :=
  cpuOnly (fun u =>
    { u with
      iff1 := false
      iff2 := false
      eiDelay := if s.params.diCancelsEiDelay then 0 else u.eiDelay }) 4 s

/-- EI (R468). -/
def execEi (s : State) : Res :=
  cpuOnly (fun u => { u with eiDelay := if u.eiDelay = 0 then 2 else u.eiDelay }) 4 s

/-- IM 0 (R469). -/
def execIm0 (s : State) : Res := cpuOnly (fun u => { u with im := .mode0 }) 8 s

/-- IM 1 (R470). -/
def execIm1 (s : State) : Res := cpuOnly (fun u => { u with im := .mode1 }) 8 s

/-- IM 2 (R471). -/
def execIm2 (s : State) : Res := cpuOnly (fun u => { u with im := .mode2 }) 8 s

end Sys2Proof.Machine
end

