-- ==== Sys2Proof/Machine/Exchange.lean ====
section
/-! DEFINITION. Exchanges, block transfer and block compare (spec/43_exchange_block.md R380 to R393).
One definition per instruction, on the state after the fetch. -/

namespace Sys2Proof.Machine

/-- EX DE,HL (R380). -/
def execExDeHl (s : State) : Res := cpuOnly (fun u => { u with d := u.h, e := u.l, h := u.d, l := u.e }) 4 s

/-- EX AF,AF' (R381). -/
def execExAfAf (s : State) : Res := cpuOnly (fun u => { u.setAf u.afShadow with afShadow := u.af }) 4 s

/-- EXX (R382). -/
def execExx (s : State) : Res :=
  cpuOnly (fun u =>
    { ((u.setBc u.bcShadow).setDe u.deShadow).setHl u.hlShadow with
      bcShadow := u.bc, deShadow := u.de, hlShadow := u.hl }) 4 s

/-- EX (SP),HL (R383). -/
def execExMspHl (s : State) : Res := exchangeTop s.cpu.hl Cpu.setHl 19 s

/-- EX (SP),xy (R384). -/
def execExMspXy (x : Xy) (s : State) : Res := exchangeTop (s.cpu.xy x) (fun u v => u.setXy x v) 23 s

/-- LDI (R386). -/
def execLdi (s : State) : Res := (blockLd 1 s).done 16

/-- LDIR (R387). -/
def execLdir (s : State) : Res := repeatWhile (ldContinues (blockLd 1 s)) (blockLd 1 s)

/-- LDD (R388). -/
def execLdd (s : State) : Res := (blockLd (-1) s).done 16

/-- LDDR (R389). -/
def execLddr (s : State) : Res := repeatWhile (ldContinues (blockLd (-1) s)) (blockLd (-1) s)

/-- CPI (R390). -/
def execCpi (s : State) : Res := (blockCp 1 s).done 16

/-- CPIR (R391). -/
def execCpir (s : State) : Res := repeatWhile (cpContinues (blockCp 1 s)) (blockCp 1 s)

/-- CPD (R392). -/
def execCpd (s : State) : Res := (blockCp (-1) s).done 16

/-- CPDR (R393). -/
def execCpdr (s : State) : Res := repeatWhile (cpContinues (blockCp (-1) s)) (blockCp (-1) s)

end Sys2Proof.Machine
end

