-- ==== Sys2Proof/Machine/Io.lean ====
section
/-! DEFINITION. Input and output (spec/49_io.md R650 to R661).
One definition per instruction, on the state after the fetch. -/

namespace Sys2Proof.Machine

/-- IN A,(n) (R650). -/
def execInAMn (n : Byte) (s : State) : Res :=
  let (v, s) := s.portRead (s.immPort n)
  (s.onCpu fun u => { u with a := v }).done 11

/-- IN r,(C) (R651). -/
def execInRMc (r : R8) (s : State) : Res :=
  let (v, s) := s.portRead s.cpu.bc
  (s.onCpu fun u => (u.setR8 r v).setFlags (loadedFlags v (parity v) u.flags)).done 12

/-- INI (R652). -/
def execIni (s : State) : Res := (blockIn 1 s).done 16

/-- INIR (R653). -/
def execInir (s : State) : Res := repeatWhile (ioContinues (blockIn 1 s)) (blockIn 1 s)

/-- IND (R654). -/
def execInd (s : State) : Res := (blockIn (-1) s).done 16

/-- INDR (R655). -/
def execIndr (s : State) : Res := repeatWhile (ioContinues (blockIn (-1) s)) (blockIn (-1) s)

/-- OUT (n),A (R656). -/
def execOutMnA (n : Byte) (s : State) : Res := (s.portWrite (s.immPort n) s.cpu.a).done 11

/-- OUT (C),r (R657). -/
def execOutMcR (r : R8) (s : State) : Res := (s.portWrite s.cpu.bc (s.cpu.r8 r)).done 12

/-- OUTI (R658). -/
def execOuti (s : State) : Res := (blockOut 1 s).done 16

/-- OTIR (R659). -/
def execOtir (s : State) : Res := repeatWhile (ioContinues (blockOut 1 s)) (blockOut 1 s)

/-- OUTD (R660). -/
def execOutd (s : State) : Res := (blockOut (-1) s).done 16

/-- OTDR (R661). -/
def execOtdr (s : State) : Res := repeatWhile (ioContinues (blockOut (-1) s)) (blockOut (-1) s)

end Sys2Proof.Machine
end

