-- ==== Sys2Proof/Machine/Jump.lean ====
section
/-! DEFINITION. Jumps, calls and returns (spec/48_jump_call_return.md R600 to R613).
One definition per instruction, on the state after the fetch. -/

namespace Sys2Proof.Machine

/-- JP nn (R600). -/
def execJpNn (nn : Word) (s : State) : Res := (s.jump nn).done 10

/-- JP cc,nn (R601). -/
def execJpCcNn (cc : Cond) (nn : Word) (s : State) : Res :=
  (if s.cpu.flags.cond cc then s.jump nn else s).done 10

/-- JR e (R602). -/
def execJr (e : Byte) (s : State) : Res := (s.jumpRel e).done 12

/-- JR cc,e (R603). -/
def execJrCc (cc : Cond) (e : Byte) (s : State) : Res :=
  if s.cpu.flags.cond cc then (s.jumpRel e).done 12 else s.done 7

/-- JP (HL) (R604). -/
def execJpHl (s : State) : Res := (s.jump s.cpu.hl).done 4

/-- JP (xy) (R605). -/
def execJpXy (x : Xy) (s : State) : Res := (s.jump (s.cpu.xy x)).done 8

/-- DJNZ e (R606). -/
def execDjnz (e : Byte) (s : State) : Res :=
  let s := s.onCpu fun u => { u with b := u.b - 1 }
  if s.cpu.b = 0 then s.done 8 else (s.jumpRel e).done 13

/-- CALL nn (R607). -/
def execCallNn (nn : Word) (s : State) : Res := (s.call nn).done 17

/-- CALL cc,nn (R608). -/
def execCallCcNn (cc : Cond) (nn : Word) (s : State) : Res :=
  if s.cpu.flags.cond cc then (s.call nn).done 17 else s.done 10

/-- RET (R609). -/
def execRet (s : State) : Res := s.popPc.done 10

/-- RET cc (R610). -/
def execRetCc (cc : Cond) (s : State) : Res := if s.cpu.flags.cond cc then s.popPc.done 11 else s.done 5

/-- RETI (R611). -/
def execReti (s : State) : Res := s.returnFromInterrupt.done 14

/-- RETN (R612). -/
def execRetn (s : State) : Res := s.returnFromInterrupt.done 14

/-- RST p (R613). -/
def execRstP (p : BitVec 3) (s : State) : Res := (s.call (p.setWidth 16 <<< 3)).done 11

end Sys2Proof.Machine
end

