-- ==== Sys2Proof/Machine/Load16.lean ====
section
/-! DEFINITION. 16-bit loads and the stack (spec/42_load16.md R340 to R353).
One definition per instruction, on the state after the fetch. -/

namespace Sys2Proof.Machine

/-- LD rp,nn (R340). -/
def execLdRpNn (p : Rp) (nn : Word) (s : State) : Res := cpuOnly (fun u => u.setRp p nn) 10 s

/-- LD xy,nn (R341). -/
def execLdXyNn (x : Xy) (nn : Word) (s : State) : Res := cpuOnly (fun u => u.setXy x nn) 14 s

/-- LD HL,(nn) (R342). -/
def execLdHlMnn (nn : Word) (s : State) : Res := loadWord Cpu.setHl nn 16 s

/-- LD rp,(nn) (R343). -/
def execLdRpMnn (p : Rp) (nn : Word) (s : State) : Res := loadWord (fun u v => u.setRp p v) nn 20 s

/-- LD xy,(nn) (R344). -/
def execLdXyMnn (x : Xy) (nn : Word) (s : State) : Res := loadWord (fun u v => u.setXy x v) nn 20 s

/-- LD (nn),HL (R345). -/
def execLdMnnHl (nn : Word) (s : State) : Res := storeWord nn s.cpu.hl 16 s

/-- LD (nn),rp (R346). -/
def execLdMnnRp (p : Rp) (nn : Word) (s : State) : Res := storeWord nn (s.cpu.rp p) 20 s

/-- LD (nn),xy (R347). -/
def execLdMnnXy (x : Xy) (nn : Word) (s : State) : Res := storeWord nn (s.cpu.xy x) 20 s

/-- LD SP,HL (R348). -/
def execLdSpHl (s : State) : Res := cpuOnly (fun u => { u with sp := u.hl }) 6 s

/-- LD SP,xy (R349). -/
def execLdSpXy (x : Xy) (s : State) : Res := cpuOnly (fun u => { u with sp := u.xy x }) 10 s

/-- PUSH rp2 (R350). -/
def execPushRp2 (p : Rp2) (s : State) : Res := (s.push (s.cpu.rp2 p)).done 11

/-- PUSH xy (R351). -/
def execPushXy (x : Xy) (s : State) : Res := (s.push (s.cpu.xy x)).done 15

/-- POP rp2 (R352). -/
def execPopRp2 (p : Rp2) (s : State) : Res := popTo (fun u v => u.setRp2 p v) 10 s

/-- POP xy (R353). -/
def execPopXy (x : Xy) (s : State) : Res := popTo (fun u v => u.setXy x v) 14 s

end Sys2Proof.Machine
end

