-- ==== Sys2Proof/Machine/Load8.lean ====
section
/-! DEFINITION. 8-bit loads (spec/41_load8.md R300 to R319).
One definition per instruction, on the state after the fetch. -/

namespace Sys2Proof.Machine

/-- LD r,r' (R300). -/
def execLdRR (r : R8) (r' : R8) (s : State) : Res := moveByte (.reg r) (.reg r') 4 s

/-- LD r,n (R301). -/
def execLdRN (r : R8) (n : Byte) (s : State) : Res := setByte (.reg r) n 7 s

/-- LD r,(HL) (R302). -/
def execLdRMhl (r : R8) (s : State) : Res := moveByte (.reg r) .atHl 7 s

/-- LD B,(xy+d) (R303). -/
def execLdBMxyd (x : Xy) (d : Byte) (s : State) : Res := moveByte (.reg .b) (.indexed x d) 19 s

/-- LD C,(xy+d) (R303). -/
def execLdCMxyd (x : Xy) (d : Byte) (s : State) : Res := moveByte (.reg .c) (.indexed x d) 19 s

/-- LD D,(xy+d) (R303). -/
def execLdDMxyd (x : Xy) (d : Byte) (s : State) : Res := moveByte (.reg .d) (.indexed x d) 19 s

/-- LD E,(xy+d) (R303). -/
def execLdEMxyd (x : Xy) (d : Byte) (s : State) : Res := moveByte (.reg .e) (.indexed x d) 19 s

/-- LD H,(xy+d) (R303). -/
def execLdHMxyd (x : Xy) (d : Byte) (s : State) : Res := moveByte (.reg .h) (.indexed x d) 19 s

/-- LD L,(xy+d) (R303). -/
def execLdLMxyd (x : Xy) (d : Byte) (s : State) : Res := moveByte (.reg .l) (.indexed x d) 19 s

/-- LD A,(xy+d) (R303). -/
def execLdAMxyd (x : Xy) (d : Byte) (s : State) : Res := moveByte (.reg .a) (.indexed x d) 19 s

/-- LD (HL),r (R304). -/
def execLdMhlR (r : R8) (s : State) : Res := moveByte .atHl (.reg r) 7 s

/-- LD (xy+d),B (R305). -/
def execLdMxydB (x : Xy) (d : Byte) (s : State) : Res := moveByte (.indexed x d) (.reg .b) 19 s

/-- LD (xy+d),C (R305). -/
def execLdMxydC (x : Xy) (d : Byte) (s : State) : Res := moveByte (.indexed x d) (.reg .c) 19 s

/-- LD (xy+d),D (R305). -/
def execLdMxydD (x : Xy) (d : Byte) (s : State) : Res := moveByte (.indexed x d) (.reg .d) 19 s

/-- LD (xy+d),E (R305). -/
def execLdMxydE (x : Xy) (d : Byte) (s : State) : Res := moveByte (.indexed x d) (.reg .e) 19 s

/-- LD (xy+d),H (R305). -/
def execLdMxydH (x : Xy) (d : Byte) (s : State) : Res := moveByte (.indexed x d) (.reg .h) 19 s

/-- LD (xy+d),L (R305). -/
def execLdMxydL (x : Xy) (d : Byte) (s : State) : Res := moveByte (.indexed x d) (.reg .l) 19 s

/-- LD (xy+d),A (R305). -/
def execLdMxydA (x : Xy) (d : Byte) (s : State) : Res := moveByte (.indexed x d) (.reg .a) 19 s

/-- LD (HL),n (R306). -/
def execLdMhlN (n : Byte) (s : State) : Res := setByte .atHl n 10 s

/-- LD (xy+d),n (R307). -/
def execLdMxydN (x : Xy) (d : Byte) (n : Byte) (s : State) : Res := setByte (.indexed x d) n 19 s

/-- LD A,(BC) (R308). -/
def execLdAMbc (s : State) : Res := loadA s.cpu.bc 7 s

/-- LD A,(DE) (R309). -/
def execLdAMde (s : State) : Res := loadA s.cpu.de 7 s

/-- LD A,(nn) (R310). -/
def execLdAMnn (nn : Word) (s : State) : Res := loadA nn 13 s

/-- LD (BC),A (R311). -/
def execLdMbcA (s : State) : Res := storeA s.cpu.bc 7 s

/-- LD (DE),A (R312). -/
def execLdMdeA (s : State) : Res := storeA s.cpu.de 7 s

/-- LD (nn),A (R313). -/
def execLdMnnA (nn : Word) (s : State) : Res := storeA nn 13 s

/-- LD A,I (R314). -/
def execLdAI (s : State) : Res := loadAFrom s.cpu.i 9 s

/-- LD A,R (R315). -/
def execLdAR (s : State) : Res := loadAFrom s.cpu.r 9 s

/-- LD I,A (R316). -/
def execLdIA (s : State) : Res := cpuOnly (fun u => { u with i := u.a }) 9 s

/-- LD R,A (R317). -/
def execLdRA (s : State) : Res := cpuOnly (fun u => { u with r := u.a }) 9 s

/-- LD B,xyH (R318). -/
def execLdBXyh (x : Xy) (s : State) : Res := moveByte (.reg .b) (.xyHigh x) 8 s

/-- LD B,xyL (R318). -/
def execLdBXyl (x : Xy) (s : State) : Res := moveByte (.reg .b) (.xyLow x) 8 s

/-- LD C,xyH (R318). -/
def execLdCXyh (x : Xy) (s : State) : Res := moveByte (.reg .c) (.xyHigh x) 8 s

/-- LD C,xyL (R318). -/
def execLdCXyl (x : Xy) (s : State) : Res := moveByte (.reg .c) (.xyLow x) 8 s

/-- LD D,xyH (R318). -/
def execLdDXyh (x : Xy) (s : State) : Res := moveByte (.reg .d) (.xyHigh x) 8 s

/-- LD D,xyL (R318). -/
def execLdDXyl (x : Xy) (s : State) : Res := moveByte (.reg .d) (.xyLow x) 8 s

/-- LD E,xyH (R318). -/
def execLdEXyh (x : Xy) (s : State) : Res := moveByte (.reg .e) (.xyHigh x) 8 s

/-- LD E,xyL (R318). -/
def execLdEXyl (x : Xy) (s : State) : Res := moveByte (.reg .e) (.xyLow x) 8 s

/-- LD xyH,B (R318). -/
def execLdXyhB (x : Xy) (s : State) : Res := moveByte (.xyHigh x) (.reg .b) 8 s

/-- LD xyH,C (R318). -/
def execLdXyhC (x : Xy) (s : State) : Res := moveByte (.xyHigh x) (.reg .c) 8 s

/-- LD xyH,D (R318). -/
def execLdXyhD (x : Xy) (s : State) : Res := moveByte (.xyHigh x) (.reg .d) 8 s

/-- LD xyH,E (R318). -/
def execLdXyhE (x : Xy) (s : State) : Res := moveByte (.xyHigh x) (.reg .e) 8 s

/-- LD xyH,xyH (R318). -/
def execLdXyhXyh (x : Xy) (s : State) : Res := moveByte (.xyHigh x) (.xyHigh x) 8 s

/-- LD xyH,xyL (R318). -/
def execLdXyhXyl (x : Xy) (s : State) : Res := moveByte (.xyHigh x) (.xyLow x) 8 s

/-- LD xyH,A (R318). -/
def execLdXyhA (x : Xy) (s : State) : Res := moveByte (.xyHigh x) (.reg .a) 8 s

/-- LD xyL,B (R318). -/
def execLdXylB (x : Xy) (s : State) : Res := moveByte (.xyLow x) (.reg .b) 8 s

/-- LD xyL,C (R318). -/
def execLdXylC (x : Xy) (s : State) : Res := moveByte (.xyLow x) (.reg .c) 8 s

/-- LD xyL,D (R318). -/
def execLdXylD (x : Xy) (s : State) : Res := moveByte (.xyLow x) (.reg .d) 8 s

/-- LD xyL,E (R318). -/
def execLdXylE (x : Xy) (s : State) : Res := moveByte (.xyLow x) (.reg .e) 8 s

/-- LD xyL,xyH (R318). -/
def execLdXylXyh (x : Xy) (s : State) : Res := moveByte (.xyLow x) (.xyHigh x) 8 s

/-- LD xyL,xyL (R318). -/
def execLdXylXyl (x : Xy) (s : State) : Res := moveByte (.xyLow x) (.xyLow x) 8 s

/-- LD xyL,A (R318). -/
def execLdXylA (x : Xy) (s : State) : Res := moveByte (.xyLow x) (.reg .a) 8 s

/-- LD A,xyH (R318). -/
def execLdAXyh (x : Xy) (s : State) : Res := moveByte (.reg .a) (.xyHigh x) 8 s

/-- LD A,xyL (R318). -/
def execLdAXyl (x : Xy) (s : State) : Res := moveByte (.reg .a) (.xyLow x) 8 s

/-- LD xyH,n (R319). -/
def execLdXyhN (x : Xy) (n : Byte) (s : State) : Res := setByte (.xyHigh x) n 11 s

/-- LD xyL,n (R319). -/
def execLdXylN (x : Xy) (n : Byte) (s : State) : Res := setByte (.xyLow x) n 11 s

end Sys2Proof.Machine
end

