-- ==== Sys2Proof/Machine/Rotate.lean ====
section
/-! DEFINITION. Rotates, shifts and bit operations (spec/47_rotate_shift_bit.md R540 to R561).
One definition per instruction, on the state after the fetch. -/

namespace Sys2Proof.Machine

/-- RLCA (R540). -/
def execRlca (s : State) : Res := onA (rotAFlags .rlc) 4 s

/-- RLA (R541). -/
def execRla (s : State) : Res := onA (rotAFlags .rl) 4 s

/-- RRCA (R542). -/
def execRrca (s : State) : Res := onA (rotAFlags .rrc) 4 s

/-- RRA (R543). -/
def execRra (s : State) : Res := onA (rotAFlags .rr) 4 s

/-- RLC r (R544). -/
def execRlcR (r : R8) (s : State) : Res := modify (rotFlags .rlc) (.reg r) 8 s

/-- RLC (HL) (R544). -/
def execRlcMhl (s : State) : Res := modify (rotFlags .rlc) .atHl 15 s

/-- RRC r (R545). -/
def execRrcR (r : R8) (s : State) : Res := modify (rotFlags .rrc) (.reg r) 8 s

/-- RRC (HL) (R545). -/
def execRrcMhl (s : State) : Res := modify (rotFlags .rrc) .atHl 15 s

/-- RL r (R546). -/
def execRlR (r : R8) (s : State) : Res := modify (rotFlags .rl) (.reg r) 8 s

/-- RL (HL) (R546). -/
def execRlMhl (s : State) : Res := modify (rotFlags .rl) .atHl 15 s

/-- RR r (R547). -/
def execRrR (r : R8) (s : State) : Res := modify (rotFlags .rr) (.reg r) 8 s

/-- RR (HL) (R547). -/
def execRrMhl (s : State) : Res := modify (rotFlags .rr) .atHl 15 s

/-- SLA r (R548). -/
def execSlaR (r : R8) (s : State) : Res := modify (rotFlags .sla) (.reg r) 8 s

/-- SLA (HL) (R548). -/
def execSlaMhl (s : State) : Res := modify (rotFlags .sla) .atHl 15 s

/-- SRA r (R549). -/
def execSraR (r : R8) (s : State) : Res := modify (rotFlags .sra) (.reg r) 8 s

/-- SRA (HL) (R549). -/
def execSraMhl (s : State) : Res := modify (rotFlags .sra) .atHl 15 s

/-- SLL r (R550). -/
def execSllR (r : R8) (s : State) : Res := modify (rotFlags .sll) (.reg r) 8 s

/-- SLL (HL) (R550). -/
def execSllMhl (s : State) : Res := modify (rotFlags .sll) .atHl 15 s

/-- SRL r (R551). -/
def execSrlR (r : R8) (s : State) : Res := modify (rotFlags .srl) (.reg r) 8 s

/-- SRL (HL) (R551). -/
def execSrlMhl (s : State) : Res := modify (rotFlags .srl) .atHl 15 s

/-- RLC (xy+d),r (R552). -/
def execRlcMxydR (x : Xy) (d : Byte) (r : R8) (s : State) : Res := modifyCopy (rotFlags .rlc) x d r s

/-- RLC (xy+d) (R552). -/
def execRlcMxyd (x : Xy) (d : Byte) (s : State) : Res := modify (rotFlags .rlc) (.indexed x d) 23 s

/-- RRC (xy+d),r (R552). -/
def execRrcMxydR (x : Xy) (d : Byte) (r : R8) (s : State) : Res := modifyCopy (rotFlags .rrc) x d r s

/-- RRC (xy+d) (R552). -/
def execRrcMxyd (x : Xy) (d : Byte) (s : State) : Res := modify (rotFlags .rrc) (.indexed x d) 23 s

/-- RL (xy+d),r (R552). -/
def execRlMxydR (x : Xy) (d : Byte) (r : R8) (s : State) : Res := modifyCopy (rotFlags .rl) x d r s

/-- RL (xy+d) (R552). -/
def execRlMxyd (x : Xy) (d : Byte) (s : State) : Res := modify (rotFlags .rl) (.indexed x d) 23 s

/-- RR (xy+d),r (R552). -/
def execRrMxydR (x : Xy) (d : Byte) (r : R8) (s : State) : Res := modifyCopy (rotFlags .rr) x d r s

/-- RR (xy+d) (R552). -/
def execRrMxyd (x : Xy) (d : Byte) (s : State) : Res := modify (rotFlags .rr) (.indexed x d) 23 s

/-- SLA (xy+d),r (R552). -/
def execSlaMxydR (x : Xy) (d : Byte) (r : R8) (s : State) : Res := modifyCopy (rotFlags .sla) x d r s

/-- SLA (xy+d) (R552). -/
def execSlaMxyd (x : Xy) (d : Byte) (s : State) : Res := modify (rotFlags .sla) (.indexed x d) 23 s

/-- SRA (xy+d),r (R552). -/
def execSraMxydR (x : Xy) (d : Byte) (r : R8) (s : State) : Res := modifyCopy (rotFlags .sra) x d r s

/-- SRA (xy+d) (R552). -/
def execSraMxyd (x : Xy) (d : Byte) (s : State) : Res := modify (rotFlags .sra) (.indexed x d) 23 s

/-- SLL (xy+d),r (R552). -/
def execSllMxydR (x : Xy) (d : Byte) (r : R8) (s : State) : Res := modifyCopy (rotFlags .sll) x d r s

/-- SLL (xy+d) (R552). -/
def execSllMxyd (x : Xy) (d : Byte) (s : State) : Res := modify (rotFlags .sll) (.indexed x d) 23 s

/-- SRL (xy+d),r (R552). -/
def execSrlMxydR (x : Xy) (d : Byte) (r : R8) (s : State) : Res := modifyCopy (rotFlags .srl) x d r s

/-- SRL (xy+d) (R552). -/
def execSrlMxyd (x : Xy) (d : Byte) (s : State) : Res := modify (rotFlags .srl) (.indexed x d) 23 s

/-- RLD (R553). -/
def execRld (s : State) : Res :=
  let (v, s) := s.memRead s.cpu.hl
  let a := (s.cpu.a &&& 0xF0) ||| (v >>> 4)
  let s := s.memWrite s.cpu.hl ((v <<< 4) ||| (s.cpu.a &&& 0x0F))
  (s.onCpu fun u => { u with a := a }.setFlags (loadedFlags a (parity a) u.flags)).done 18

/-- RRD (R554). -/
def execRrd (s : State) : Res :=
  let (v, s) := s.memRead s.cpu.hl
  let a := (s.cpu.a &&& 0xF0) ||| (v &&& 0x0F)
  let s := s.memWrite s.cpu.hl (((s.cpu.a &&& 0x0F) <<< 4) ||| (v >>> 4))
  (s.onCpu fun u => { u with a := a }.setFlags (loadedFlags a (parity a) u.flags)).done 18

/-- BIT b,r (R555). -/
def execBitBR (b : BitVec 3) (r : R8) (s : State) : Res :=
  cpuOnly (fun u =>
    u.setFlags (bitFlags b (u.r8 r) ((u.r8 r).getLsbD 5) ((u.r8 r).getLsbD 3) u.flags)) 8 s

/-- BIT b,(HL) (R556). -/
def execBitBMhl (b : BitVec 3) (s : State) : Res := testMemBit b .atHl 12 s

/-- BIT b,(xy+d) (R557). -/
def execBitBMxyd (x : Xy) (d : Byte) (b : BitVec 3) (_z : BitVec 3) (s : State) : Res :=
  testMemBit b (.indexed x d) 20 s

/-- RES b,r (R558). -/
def execResBR (b : BitVec 3) (r : R8) (s : State) : Res := modifyKeep (resBit b) (.reg r) 8 s

/-- RES b,(HL) (R558). -/
def execResBMhl (b : BitVec 3) (s : State) : Res := modifyKeep (resBit b) .atHl 15 s

/-- RES b,(xy+d),r (R559). -/
def execResBMxydR (x : Xy) (d : Byte) (b : BitVec 3) (r : R8) (s : State) : Res :=
  modifyKeepCopy (resBit b) x d r s

/-- RES b,(xy+d) (R559). -/
def execResBMxyd (x : Xy) (d : Byte) (b : BitVec 3) (s : State) : Res :=
  modifyKeep (resBit b) (.indexed x d) 23 s

/-- SET b,r (R560). -/
def execSetBR (b : BitVec 3) (r : R8) (s : State) : Res := modifyKeep (setBit b) (.reg r) 8 s

/-- SET b,(HL) (R560). -/
def execSetBMhl (b : BitVec 3) (s : State) : Res := modifyKeep (setBit b) .atHl 15 s

/-- SET b,(xy+d),r (R561). -/
def execSetBMxydR (x : Xy) (d : Byte) (b : BitVec 3) (r : R8) (s : State) : Res :=
  modifyKeepCopy (setBit b) x d r s

/-- SET b,(xy+d) (R561). -/
def execSetBMxyd (x : Xy) (d : Byte) (b : BitVec 3) (s : State) : Res :=
  modifyKeep (setBit b) (.indexed x d) 23 s

end Sys2Proof.Machine
end

