-- ==== Sys2Proof/Machine/Dispatch.lean ====
section
/-! DEFINITION. The dispatch: one arm per constructor of Instr, one direct call of its meaning each. -/

namespace Sys2Proof.Machine

def exec (i : Instr) (s : State) : Host.Outcome State Fault Refusal :=
  match i with
  | .nop => Sys2Proof.Machine.execNop s
  | .exAfAf => Sys2Proof.Machine.execExAfAf s
  | .djnz e => Sys2Proof.Machine.execDjnz e s
  | .jr e => Sys2Proof.Machine.execJr e s
  | .jrCc cc e => Sys2Proof.Machine.execJrCc cc e s
  | .ldRpNn p nn => Sys2Proof.Machine.execLdRpNn p nn s
  | .addHlRp p => Sys2Proof.Machine.execAddHlRp p s
  | .ldMbcA => Sys2Proof.Machine.execLdMbcA s
  | .ldMdeA => Sys2Proof.Machine.execLdMdeA s
  | .ldMnnHl nn => Sys2Proof.Machine.execLdMnnHl nn s
  | .ldMnnA nn => Sys2Proof.Machine.execLdMnnA nn s
  | .ldAMbc => Sys2Proof.Machine.execLdAMbc s
  | .ldAMde => Sys2Proof.Machine.execLdAMde s
  | .ldHlMnn nn => Sys2Proof.Machine.execLdHlMnn nn s
  | .ldAMnn nn => Sys2Proof.Machine.execLdAMnn nn s
  | .incRp p => Sys2Proof.Machine.execIncRp p s
  | .decRp p => Sys2Proof.Machine.execDecRp p s
  | .incR r => Sys2Proof.Machine.execIncR r s
  | .incMhl => Sys2Proof.Machine.execIncMhl s
  | .decR r => Sys2Proof.Machine.execDecR r s
  | .decMhl => Sys2Proof.Machine.execDecMhl s
  | .ldRN r n => Sys2Proof.Machine.execLdRN r n s
  | .ldMhlN n => Sys2Proof.Machine.execLdMhlN n s
  | .rlca => Sys2Proof.Machine.execRlca s
  | .rrca => Sys2Proof.Machine.execRrca s
  | .rla => Sys2Proof.Machine.execRla s
  | .rra => Sys2Proof.Machine.execRra s
  | .daa => Sys2Proof.Machine.execDaa s
  | .cpl => Sys2Proof.Machine.execCpl s
  | .scf => Sys2Proof.Machine.execScf s
  | .ccf => Sys2Proof.Machine.execCcf s
  | .halt => Sys2Proof.Machine.execHalt s
  | .ldRR r r' => Sys2Proof.Machine.execLdRR r r' s
  | .ldRMhl r => Sys2Proof.Machine.execLdRMhl r s
  | .ldMhlR r => Sys2Proof.Machine.execLdMhlR r s
  | .addAR r => Sys2Proof.Machine.execAddAR r s
  | .addAMhl => Sys2Proof.Machine.execAddAMhl s
  | .addAN n => Sys2Proof.Machine.execAddAN n s
  | .adcAR r => Sys2Proof.Machine.execAdcAR r s
  | .adcAMhl => Sys2Proof.Machine.execAdcAMhl s
  | .adcAN n => Sys2Proof.Machine.execAdcAN n s
  | .subR r => Sys2Proof.Machine.execSubR r s
  | .subMhl => Sys2Proof.Machine.execSubMhl s
  | .subN n => Sys2Proof.Machine.execSubN n s
  | .sbcAR r => Sys2Proof.Machine.execSbcAR r s
  | .sbcAMhl => Sys2Proof.Machine.execSbcAMhl s
  | .sbcAN n => Sys2Proof.Machine.execSbcAN n s
  | .andR r => Sys2Proof.Machine.execAndR r s
  | .andMhl => Sys2Proof.Machine.execAndMhl s
  | .andN n => Sys2Proof.Machine.execAndN n s
  | .xorR r => Sys2Proof.Machine.execXorR r s
  | .xorMhl => Sys2Proof.Machine.execXorMhl s
  | .xorN n => Sys2Proof.Machine.execXorN n s
  | .orR r => Sys2Proof.Machine.execOrR r s
  | .orMhl => Sys2Proof.Machine.execOrMhl s
  | .orN n => Sys2Proof.Machine.execOrN n s
  | .cpR r => Sys2Proof.Machine.execCpR r s
  | .cpMhl => Sys2Proof.Machine.execCpMhl s
  | .cpN n => Sys2Proof.Machine.execCpN n s
  | .retCc cc => Sys2Proof.Machine.execRetCc cc s
  | .popRp2 p => Sys2Proof.Machine.execPopRp2 p s
  | .ret => Sys2Proof.Machine.execRet s
  | .exx => Sys2Proof.Machine.execExx s
  | .jpHl => Sys2Proof.Machine.execJpHl s
  | .ldSpHl => Sys2Proof.Machine.execLdSpHl s
  | .jpCcNn cc nn => Sys2Proof.Machine.execJpCcNn cc nn s
  | .jpNn nn => Sys2Proof.Machine.execJpNn nn s
  | .outMnA n => Sys2Proof.Machine.execOutMnA n s
  | .inAMn n => Sys2Proof.Machine.execInAMn n s
  | .exMspHl => Sys2Proof.Machine.execExMspHl s
  | .exDeHl => Sys2Proof.Machine.execExDeHl s
  | .di => Sys2Proof.Machine.execDi s
  | .ei => Sys2Proof.Machine.execEi s
  | .callCcNn cc nn => Sys2Proof.Machine.execCallCcNn cc nn s
  | .pushRp2 p => Sys2Proof.Machine.execPushRp2 p s
  | .callNn nn => Sys2Proof.Machine.execCallNn nn s
  | .rstP p => Sys2Proof.Machine.execRstP p s
  | .rlcR r => Sys2Proof.Machine.execRlcR r s
  | .rlcMhl => Sys2Proof.Machine.execRlcMhl s
  | .rrcR r => Sys2Proof.Machine.execRrcR r s
  | .rrcMhl => Sys2Proof.Machine.execRrcMhl s
  | .rlR r => Sys2Proof.Machine.execRlR r s
  | .rlMhl => Sys2Proof.Machine.execRlMhl s
  | .rrR r => Sys2Proof.Machine.execRrR r s
  | .rrMhl => Sys2Proof.Machine.execRrMhl s
  | .slaR r => Sys2Proof.Machine.execSlaR r s
  | .slaMhl => Sys2Proof.Machine.execSlaMhl s
  | .sraR r => Sys2Proof.Machine.execSraR r s
  | .sraMhl => Sys2Proof.Machine.execSraMhl s
  | .sllR r => Sys2Proof.Machine.execSllR r s
  | .sllMhl => Sys2Proof.Machine.execSllMhl s
  | .srlR r => Sys2Proof.Machine.execSrlR r s
  | .srlMhl => Sys2Proof.Machine.execSrlMhl s
  | .bitBR b r => Sys2Proof.Machine.execBitBR b r s
  | .bitBMhl b => Sys2Proof.Machine.execBitBMhl b s
  | .resBR b r => Sys2Proof.Machine.execResBR b r s
  | .resBMhl b => Sys2Proof.Machine.execResBMhl b s
  | .setBR b r => Sys2Proof.Machine.execSetBR b r s
  | .setBMhl b => Sys2Proof.Machine.execSetBMhl b s
  | .illegalEd op => Sys2Proof.Machine.execIllegalEd op s
  | .inRMc r => Sys2Proof.Machine.execInRMc r s
  | .illegalEd70 => Sys2Proof.Machine.execIllegalEd70 s
  | .outMcR r => Sys2Proof.Machine.execOutMcR r s
  | .illegalEd71 => Sys2Proof.Machine.execIllegalEd71 s
  | .sbcHlRp p => Sys2Proof.Machine.execSbcHlRp p s
  | .adcHlRp p => Sys2Proof.Machine.execAdcHlRp p s
  | .ldMnnRp p nn => Sys2Proof.Machine.execLdMnnRp p nn s
  | .ldRpMnn p nn => Sys2Proof.Machine.execLdRpMnn p nn s
  | .neg => Sys2Proof.Machine.execNeg s
  | .retn => Sys2Proof.Machine.execRetn s
  | .reti => Sys2Proof.Machine.execReti s
  | .im0 => Sys2Proof.Machine.execIm0 s
  | .im1 => Sys2Proof.Machine.execIm1 s
  | .im2 => Sys2Proof.Machine.execIm2 s
  | .ldIA => Sys2Proof.Machine.execLdIA s
  | .ldRA => Sys2Proof.Machine.execLdRA s
  | .ldAI => Sys2Proof.Machine.execLdAI s
  | .ldAR => Sys2Proof.Machine.execLdAR s
  | .rrd => Sys2Proof.Machine.execRrd s
  | .rld => Sys2Proof.Machine.execRld s
  | .ldi => Sys2Proof.Machine.execLdi s
  | .cpi => Sys2Proof.Machine.execCpi s
  | .ini => Sys2Proof.Machine.execIni s
  | .outi => Sys2Proof.Machine.execOuti s
  | .ldd => Sys2Proof.Machine.execLdd s
  | .cpd => Sys2Proof.Machine.execCpd s
  | .ind => Sys2Proof.Machine.execInd s
  | .outd => Sys2Proof.Machine.execOutd s
  | .ldir => Sys2Proof.Machine.execLdir s
  | .cpir => Sys2Proof.Machine.execCpir s
  | .inir => Sys2Proof.Machine.execInir s
  | .otir => Sys2Proof.Machine.execOtir s
  | .lddr => Sys2Proof.Machine.execLddr s
  | .cpdr => Sys2Proof.Machine.execCpdr s
  | .indr => Sys2Proof.Machine.execIndr s
  | .otdr => Sys2Proof.Machine.execOtdr s
  | .xyFallback x op => Sys2Proof.Machine.execXyFallback x op s
  | .addXyPp x p => Sys2Proof.Machine.execAddXyPp x p s
  | .ldXyNn x nn => Sys2Proof.Machine.execLdXyNn x nn s
  | .ldMnnXy x nn => Sys2Proof.Machine.execLdMnnXy x nn s
  | .incXy x => Sys2Proof.Machine.execIncXy x s
  | .decXy x => Sys2Proof.Machine.execDecXy x s
  | .ldXyMnn x nn => Sys2Proof.Machine.execLdXyMnn x nn s
  | .incXyh x => Sys2Proof.Machine.execIncXyh x s
  | .decXyh x => Sys2Proof.Machine.execDecXyh x s
  | .incXyl x => Sys2Proof.Machine.execIncXyl x s
  | .decXyl x => Sys2Proof.Machine.execDecXyl x s
  | .ldXyhN x n => Sys2Proof.Machine.execLdXyhN x n s
  | .ldXylN x n => Sys2Proof.Machine.execLdXylN x n s
  | .incMxyd x d => Sys2Proof.Machine.execIncMxyd x d s
  | .decMxyd x d => Sys2Proof.Machine.execDecMxyd x d s
  | .ldMxydN x d n => Sys2Proof.Machine.execLdMxydN x d n s
  | .ldBXyh x => Sys2Proof.Machine.execLdBXyh x s
  | .ldBXyl x => Sys2Proof.Machine.execLdBXyl x s
  | .ldBMxyd x d => Sys2Proof.Machine.execLdBMxyd x d s
  | .ldCXyh x => Sys2Proof.Machine.execLdCXyh x s
  | .ldCXyl x => Sys2Proof.Machine.execLdCXyl x s
  | .ldCMxyd x d => Sys2Proof.Machine.execLdCMxyd x d s
  | .ldDXyh x => Sys2Proof.Machine.execLdDXyh x s
  | .ldDXyl x => Sys2Proof.Machine.execLdDXyl x s
  | .ldDMxyd x d => Sys2Proof.Machine.execLdDMxyd x d s
  | .ldEXyh x => Sys2Proof.Machine.execLdEXyh x s
  | .ldEXyl x => Sys2Proof.Machine.execLdEXyl x s
  | .ldEMxyd x d => Sys2Proof.Machine.execLdEMxyd x d s
  | .ldXyhB x => Sys2Proof.Machine.execLdXyhB x s
  | .ldXyhC x => Sys2Proof.Machine.execLdXyhC x s
  | .ldXyhD x => Sys2Proof.Machine.execLdXyhD x s
  | .ldXyhE x => Sys2Proof.Machine.execLdXyhE x s
  | .ldXyhXyh x => Sys2Proof.Machine.execLdXyhXyh x s
  | .ldXyhXyl x => Sys2Proof.Machine.execLdXyhXyl x s
  | .ldHMxyd x d => Sys2Proof.Machine.execLdHMxyd x d s
  | .ldXyhA x => Sys2Proof.Machine.execLdXyhA x s
  | .ldXylB x => Sys2Proof.Machine.execLdXylB x s
  | .ldXylC x => Sys2Proof.Machine.execLdXylC x s
  | .ldXylD x => Sys2Proof.Machine.execLdXylD x s
  | .ldXylE x => Sys2Proof.Machine.execLdXylE x s
  | .ldXylXyh x => Sys2Proof.Machine.execLdXylXyh x s
  | .ldXylXyl x => Sys2Proof.Machine.execLdXylXyl x s
  | .ldLMxyd x d => Sys2Proof.Machine.execLdLMxyd x d s
  | .ldXylA x => Sys2Proof.Machine.execLdXylA x s
  | .ldMxydB x d => Sys2Proof.Machine.execLdMxydB x d s
  | .ldMxydC x d => Sys2Proof.Machine.execLdMxydC x d s
  | .ldMxydD x d => Sys2Proof.Machine.execLdMxydD x d s
  | .ldMxydE x d => Sys2Proof.Machine.execLdMxydE x d s
  | .ldMxydH x d => Sys2Proof.Machine.execLdMxydH x d s
  | .ldMxydL x d => Sys2Proof.Machine.execLdMxydL x d s
  | .ldMxydA x d => Sys2Proof.Machine.execLdMxydA x d s
  | .ldAXyh x => Sys2Proof.Machine.execLdAXyh x s
  | .ldAXyl x => Sys2Proof.Machine.execLdAXyl x s
  | .ldAMxyd x d => Sys2Proof.Machine.execLdAMxyd x d s
  | .addAXyh x => Sys2Proof.Machine.execAddAXyh x s
  | .addAXyl x => Sys2Proof.Machine.execAddAXyl x s
  | .addAMxyd x d => Sys2Proof.Machine.execAddAMxyd x d s
  | .adcAXyh x => Sys2Proof.Machine.execAdcAXyh x s
  | .adcAXyl x => Sys2Proof.Machine.execAdcAXyl x s
  | .adcAMxyd x d => Sys2Proof.Machine.execAdcAMxyd x d s
  | .subXyh x => Sys2Proof.Machine.execSubXyh x s
  | .subXyl x => Sys2Proof.Machine.execSubXyl x s
  | .subMxyd x d => Sys2Proof.Machine.execSubMxyd x d s
  | .sbcAXyh x => Sys2Proof.Machine.execSbcAXyh x s
  | .sbcAXyl x => Sys2Proof.Machine.execSbcAXyl x s
  | .sbcAMxyd x d => Sys2Proof.Machine.execSbcAMxyd x d s
  | .andXyh x => Sys2Proof.Machine.execAndXyh x s
  | .andXyl x => Sys2Proof.Machine.execAndXyl x s
  | .andMxyd x d => Sys2Proof.Machine.execAndMxyd x d s
  | .xorXyh x => Sys2Proof.Machine.execXorXyh x s
  | .xorXyl x => Sys2Proof.Machine.execXorXyl x s
  | .xorMxyd x d => Sys2Proof.Machine.execXorMxyd x d s
  | .orXyh x => Sys2Proof.Machine.execOrXyh x s
  | .orXyl x => Sys2Proof.Machine.execOrXyl x s
  | .orMxyd x d => Sys2Proof.Machine.execOrMxyd x d s
  | .cpXyh x => Sys2Proof.Machine.execCpXyh x s
  | .cpXyl x => Sys2Proof.Machine.execCpXyl x s
  | .cpMxyd x d => Sys2Proof.Machine.execCpMxyd x d s
  | .popXy x => Sys2Proof.Machine.execPopXy x s
  | .exMspXy x => Sys2Proof.Machine.execExMspXy x s
  | .pushXy x => Sys2Proof.Machine.execPushXy x s
  | .jpXy x => Sys2Proof.Machine.execJpXy x s
  | .ldSpXy x => Sys2Proof.Machine.execLdSpXy x s
  | .rlcMxydR x d r => Sys2Proof.Machine.execRlcMxydR x d r s
  | .rlcMxyd x d => Sys2Proof.Machine.execRlcMxyd x d s
  | .rrcMxydR x d r => Sys2Proof.Machine.execRrcMxydR x d r s
  | .rrcMxyd x d => Sys2Proof.Machine.execRrcMxyd x d s
  | .rlMxydR x d r => Sys2Proof.Machine.execRlMxydR x d r s
  | .rlMxyd x d => Sys2Proof.Machine.execRlMxyd x d s
  | .rrMxydR x d r => Sys2Proof.Machine.execRrMxydR x d r s
  | .rrMxyd x d => Sys2Proof.Machine.execRrMxyd x d s
  | .slaMxydR x d r => Sys2Proof.Machine.execSlaMxydR x d r s
  | .slaMxyd x d => Sys2Proof.Machine.execSlaMxyd x d s
  | .sraMxydR x d r => Sys2Proof.Machine.execSraMxydR x d r s
  | .sraMxyd x d => Sys2Proof.Machine.execSraMxyd x d s
  | .sllMxydR x d r => Sys2Proof.Machine.execSllMxydR x d r s
  | .sllMxyd x d => Sys2Proof.Machine.execSllMxyd x d s
  | .srlMxydR x d r => Sys2Proof.Machine.execSrlMxydR x d r s
  | .srlMxyd x d => Sys2Proof.Machine.execSrlMxyd x d s
  | .bitBMxyd x d b z => Sys2Proof.Machine.execBitBMxyd x d b z s
  | .resBMxydR x d b r => Sys2Proof.Machine.execResBMxydR x d b r s
  | .resBMxyd x d b => Sys2Proof.Machine.execResBMxyd x d b s
  | .setBMxydR x d b r => Sys2Proof.Machine.execSetBMxydR x d b r s
  | .setBMxyd x d b => Sys2Proof.Machine.execSetBMxyd x d b s

end Sys2Proof.Machine
end

