-- ==== Sys2Proof/Machine/Engine.lean ====
section
/-! DEFINITION. The engine: one instruction with its prefixes (spec/30_encoding.md R112), the calls of the host
(spec/60_exceptions.md R706, R721, spec/70_reset_and_hazards.md R800), and the machine as a host sees it. -/

namespace Sys2Proof.Machine

-- Running the instruction at PC

/-- `ExecPrimary(op)` (R112): fetch the rest of the instruction and execute it; after a fallback go on with the byte
fallen back to. `fuel` counts the opcodes that may still be tried in this step: when it is used up, the step is
an endless prefix chain and never returns (R121). -/
def execPrimary (fuel : Nat) (op : Byte) (s : State) : Res :=
  match fuel with
  | 0 => .fault .hang
  | fuel + 1 =>
    let (i, s) := s.fetchInstr op
    match exec i s with
    | .next t =>
      match t.pending with
      | some op' => execPrimary fuel op' { t with pending := none }
      | none => .next t
    | .fault r => .fault r
    | .refused r => .refused r

/-- More prefixes than this, all read from plain memory, are an endless chain: PC has wrapped, and memory is only
read (R121). -/
def maxPrefixes : Nat := 65536

/-- How many opcodes a step may try before its prefix chain is known to be endless: those the host has answers
prepared for, and then as many as plain memory can hold (log entry 13). -/
def chainBound (s : State) : Nat := maxPrefixes + 1 + s.memHost.length

-- The trap hook and the host's own actions

/-- What the host does to the processor record and its memory (R721). The marks are the model's, not the host's
(R703). -/
def applyAction (act : HostAction) (s : State) : State :=
  { s with
    cpu := act.cpu.getD s.cpu
    mem := s.mem.storeAll act.stores }

/-- `TrapHook(addr, op)` (R126): whether the host handled the instruction. No hook: not handled, and no
consultation. -/
def consultHook (addr : Word) (op : Byte) (s : State) : Bool × State :=
  match s.hook with
  | none => (false, s)
  | some [] => (false, s.logged (.trapHook addr op false))
  | some (ans :: rest) =>
    (ans.handled,
      applyAction ans.act ({ s with hook := some rest }.logged (.trapHook addr op ans.handled)))

-- The step operation (R112)

/-- The start of a call: nothing has been accessed, charged or fallen back yet, and `start` is the record `s0`. -/
def beginCall (s : State) : State :=
  { s with bus := [], delta := 0, start := s.cpu, chain := [], pending := none }

/-- `Cycles <- Cycles + cycles` (R808). -/
def addCycles (s : State) : State := s.onCpu fun u => { u with cycles := u.cycles + s.delta }

/-- The end of a step that returns `Ok`: countdown, then the cycles (R112, R707). A step that raised IllegalOpcode
ends as the exception left it (R702). -/
def endStep (s : State) : State :=
  match s.faultMark with
  | some _ => s
  | none => addCycles s.countdown

/-- `HaltedNop()` (R125). -/
def haltedNop (s : State) : State := (s.onCpu fun u => { u with r := incR u.r }).charge 4

/-- A non-halted step up to its end: read the first byte, consult the hook, and dispatch unless it handled the
instruction; the byte read is not read twice (R112, R126). -/
def dispatchStep (s : State) : Res :=
  let addr := s.cpu.pc
  let (op, s) := s.memRead addr
  let (handled, s) := consultHook addr op s
  if handled then .next s
  else execPrimary (chainBound s) op (s.onCpu fun u => { u with pc := u.pc + 1, r := incR u.r })

/-- A mark of R47 answers a step or interrupt call with its recorded outcome (R703). -/
def unlessMarked (s : State) (call : State → Res) : Res :=
  match s.faultMark with
  | some r => .fault (.illegalOpcode r)
  | none =>
    match s.refusedMark with
    | some r => .refused r
    | none => call s

/-- Go on with a next state. -/
def andThen (r : Res) (k : State → State) : Res :=
  match r with
  | .next s => .next (k s)
  | .fault e => .fault e
  | .refused e => .refused e

/-- `Step()` (R112). -/
def stepCall (s : State) : Res :=
  unlessMarked s fun s =>
    let s := beginCall s
    if s.cpu.halted then .next (endStep (haltedNop s)) else andThen (dispatchStep s) endStep

-- The interrupt-request operation (R706)

/-- Whether a data byte is admitted in mode 0: a one-byte primary opcode that is no prefix (R708). -/
def admitted (data : Byte) : Bool := (decodeBytes data 0 0 0).2 == 1

/-- `Mode0(data)` (R708): an admitted byte is executed with PC where it is. -/
def mode0 (data : Byte) (s : State) : Res := execPrimary (chainBound s) data s.openMode0

/-- `Interrupt(data)` (R706). -/
def interruptCall (data : Byte) (s : State) : Res :=
  unlessMarked s fun s =>
    let s := beginCall s
    if s.cpu.eiDelay ≠ 0 then .next s
    else if s.cpu.iff1 = false then .next s
    else
      match s.cpu.im with
      | .mode0 =>
        if admitted data then andThen (mode0 data s.acknowledge) addCycles
        else .next { s with refusedMark := some (.mode0DataNotAdmitted data) }
      | .mode1 => .next (addCycles s.acknowledge.takeMode1)
      | .mode2 => .next (addCycles (s.acknowledge.takeMode2 data))

-- Reset and the host's own writes

/-- `Reset()` (R800): every field of the processor record, and the marks; memory, the parameters and what the host
has prepared stay. -/
def resetCall (s : State) : State :=
  { beginCall s with cpu := Cpu.reset, faultMark := none, refusedMark := none }

/-- One call of the host (R721). -/
def perform (call : HostCall) (s : State) : Res :=
  match call with
  | .step => stepCall s
  | .interrupt data => interruptCall data s
  | .reset => .next (resetCall s)
  | .act action => .next (applyAction action (beginCall s))

/-- The next call of the host: the first one of the script, or `Step()` when the script is empty. -/
def serve (s : State) : Res :=
  match s.calls with
  | [] => stepCall s
  | call :: rest => perform call { s with calls := rest }

-- The host's queries (R722, R723)

/-- `IsHalted()` (R723). -/
def isHalted (s : State) : Bool := s.cpu.halted

/-- `Read()` (R722): every field of the processor record, and the marks. -/
def diagnosticRead (s : State) : Cpu × Option IllegalRecord × Option Refusal :=
  (s.cpu, s.faultMark, s.refusedMark)

end Sys2Proof.Machine
end

