-- ==== Sys2Proof/Machine/Step.lean ====
section
/-! DEFINITION. One step of the machine: the next call of the host. -/

namespace Sys2Proof.Machine

/-- One step: with no script, `Step()` (R112); otherwise the script's next call (R721). -/
def step (s : State) : Host.Outcome State Fault Refusal := serve s

/-- The state with an instruction's bytes stored at PC, and with nothing that would keep the next step from
running it: not halted, no mark, no script, no hook, plain memory (log entry 12). The table numbers bits from the first byte. -/
def State.withFetchWord (s : State) (nbits w : Nat) : State :=
  { s with
    cpu := { s.cpu with halted := false }
    faultMark := none
    refusedMark := none
    calls := []
    hook := none
    memHost := []
    mem :=
      (((s.mem.write s.cpu.pc.toNat (tableByte nbits w 0)).write
        (s.cpu.pc + 1).toNat (tableByte nbits w 1)).write
        (s.cpu.pc + 2).toNat (tableByte nbits w 2)).write
        (s.cpu.pc + 3).toNat (tableByte nbits w 3) }

end Sys2Proof.Machine
end

