-- ==== Sys2Proof/Safety.lean ====
section
/-! DEFINITION. What counts as a safe run and as the end of one (spec/60_exceptions.md R703, R724), and the
invariants claims are stated with. -/

namespace Sys2Proof.Machine

/-- No fault and no refusal is recorded: the premise of every claim about a run (R703). -/
def State.unmarked (s : State) : Bool := s.faultMark.isNone && s.refusedMark.isNone

/-- Dead halt (R724 b): no interrupt can be accepted, and every later step changes only R and Cycles. -/
def State.deadHalt (s : State) : Bool := s.cpu.halted && !s.cpu.iff1 && s.cpu.eiDelay == 0

/-- The run launched from a state has ended at this state, other than by the host ceasing to call (R724 a, b). -/
def State.runEnded (s : State) : Bool := !s.unmarked || s.deadHalt

/-- Whether an action of the host leaves the processor record as it is. -/
def HostAction.keepsCpu (act : HostAction) : Bool := act.cpu.isNone

/-- The host writes no processor record: the premise a claim takes that assumes so (R721). -/
def State.hostKeepsCpu (s : State) : Bool :=
  s.calls.all (fun call =>
    match call with
    | .act action => action.keepsCpu
    | .step => true
    | .interrupt _ => true
    | .reset => true) &&
  (match s.hook with
    | none => true
    | some answers => answers.all fun ans => ans.act.keepsCpu)

end Sys2Proof.Machine
end

