-- ==== Sys2Proof/Certificates/Slice0/Obligations.lean ====
section
/-! DEFINITION. The statements for the provers. The words they share stand first: what running an instruction does
(`Claims.Runs`), operands by name, and the fetch. -/

namespace Sys2Proof.Claims

open Sys2Proof.Machine

/-- How the host serves the next memory access (log entry 5). -/
def reaction (s : State) : MemReaction := s.memHost.headD {}

/-- The host's reactions left after accesses made in this order: each one to memory uses one up. -/
def hostAfter (host : List MemReaction) (accesses : List BusAccess) : List MemReaction :=
  match accesses with
  | [] => host
  | .memRead _ _ :: later => hostAfter host.tail later
  | .memWrite _ _ :: later => hostAfter host.tail later
  | .portRead _ _ :: later => hostAfter host later
  | .portWrite _ _ :: later => hostAfter host later
  | .trapHook _ _ _ :: later => hostAfter host later

/-- What a byte holds after the host has stored these bytes: the last one stored there, or the old one. -/
def afterStores (stores : List (Word × Byte)) (a : Word) (old : Byte) : Byte :=
  stores.foldl (fun v x => if x.1 = a then x.2 else v) old

/-- What a byte of memory holds after accesses made in this order, each served by the host's next reaction: a write
stores its byte, a read nothing, unless the reaction says otherwise. -/
def cellAfter (host : List MemReaction) (accesses : List BusAccess) (a : Word) (old : Byte) : Byte :=
  match accesses with
  | [] => old
  | .memRead _ _ :: later => cellAfter host.tail later a (afterStores ((host.headD {}).stores.getD []) a old)
  | .memWrite b v :: later => cellAfter host.tail later a (afterStores ((host.headD {}).stores.getD [(b, v)]) a old)
  | .portRead _ _ :: later => cellAfter host later a old
  | .portWrite _ _ :: later => cellAfter host later a old
  | .trapHook _ _ _ :: later => cellAfter host later a old

/-- The same for plain memory: the last byte stored there, or the old one. -/
def plainAfter (accesses : List BusAccess) (a : Word) (old : Byte) : Byte :=
  accesses.foldl (fun v x =>
    match x with
    | .memWrite b w => if b = a then w else v
    | .memRead _ _ | .portRead _ _ | .portWrite _ _ | .trapHook _ _ _ => v) old

/-- What a byte of memory holds after accesses made from `s` on. -/
def holdsAfter (s : State) (accesses : List BusAccess) (a : Word) : Byte :=
  cellAfter s.memHost accesses a (s.byteAt a)

/-- The byte the host answers to a read made after these accesses: its reaction's, or what memory holds by then. -/
def answerAfter (s : State) (accesses : List BusAccess) (a : Word) : Byte :=
  ((hostAfter s.memHost accesses).headD {}).answer.getD (holdsAfter s accesses a)

/-- The byte the host answers to the next access when it is a read of `a`; for plain memory, the byte there. -/
def answer (s : State) (a : Word) : Byte := answerAfter s [] a

/-- What no completing instruction changes, but for the illegal rows and the fallback. -/
def Keeps (s t : State) : Prop :=
  t.faultMark = s.faultMark ∧ t.refusedMark = s.refusedMark ∧ t.params = s.params ∧ t.calls = s.calls ∧
    t.hook = s.hook ∧ t.start = s.start ∧ t.chain = s.chain ∧ t.pending = s.pending

/-- `exec i s` answers a next state with the processor record `cpu`, after exactly the `accesses` in this order,
at `cost` cycles, with `draws` and `portIn` as given. Memory holds, at every address, what the accesses left there:
for plain memory, with no `memWrite` among them, every byte is as before. Nothing else has changed. -/
def RunsTo (i : Instr) (s : State) (cpu : Cpu) (accesses : List BusAccess) (cost : Nat)
    (draws : Nat) (portIn : List Byte) : Prop :=
  ∃ t, exec i s = .next t ∧ t.cpu = cpu ∧ t.bus = accesses.reverse ++ s.bus ∧ t.delta = s.delta + cost ∧
    (∀ a, t.byteAt a = holdsAfter s accesses a) ∧
    (s.memHost = [] → ∀ a, t.byteAt a = plainAfter accesses a (s.byteAt a)) ∧
    t.memHost = hostAfter s.memHost accesses ∧ t.draws = draws ∧ t.portIn = portIn ∧ Keeps s t

/-- The same for an instruction that draws no free value and reads no port. -/
def Runs (i : Instr) (s : State) (cpu : Cpu) (accesses : List BusAccess) (cost : Nat) : Prop :=
  RunsTo i s cpu accesses cost s.draws s.portIn

/-- The next access as a read of `a`, with the host's answer. -/
def rd (s : State) (a : Word) : BusAccess := .memRead a (answer s a)

/-- A read of `a` made after these accesses, with the host's answer. -/
def rdAfter (s : State) (accesses : List BusAccess) (a : Word) : BusAccess := .memRead a (answerAfter s accesses a)

/-- The two reads of a 16-bit value, low byte first (R73). -/
def rd16 (s : State) (a : Word) : List BusAccess := [rd s a, rdAfter s [rd s a] (a + 1)]

/-- The 16-bit value that two reads from `a` on are answered, low byte first (R73). -/
def wordAt (s : State) (a : Word) : Word := wordOf (answerAfter s [rd s a] (a + 1)) (answer s a)

/-- The two writes of a 16-bit value, low byte first (R73). -/
def wr16 (a v : Word) : List BusAccess := [.memWrite a (loByte v), .memWrite (a + 1) (hiByte v)]

/-- The two writes of a push from a stack pointer, high byte first (R75). -/
def pushes (sp v : Word) : List BusAccess := [.memWrite (sp - 1) (hiByte v), .memWrite (sp - 2) (loByte v)]

/-- A register with its new value, spelt out. -/
def withR8 (u : Cpu) (r : R8) (v : Byte) : Cpu :=
  match r with
  | .a => { u with a := v } | .b => { u with b := v } | .c => { u with c := v } | .d => { u with d := v }
  | .e => { u with e := v } | .h => { u with h := v } | .l => { u with l := v }

/-- An index register with a new high byte. -/
def withXyHigh (u : Cpu) (x : Xy) (v : Byte) : Cpu :=
  match x with
  | .ix => { u with ix := wordOf v (loByte u.ix) } | .iy => { u with iy := wordOf v (loByte u.iy) }

/-- An index register with a new low byte. -/
def withXyLow (u : Cpu) (x : Xy) (v : Byte) : Cpu :=
  match x with
  | .ix => { u with ix := wordOf (hiByte u.ix) v } | .iy => { u with iy := wordOf (hiByte u.iy) v }

/-- An index register with a new value. -/
def withXy (u : Cpu) (x : Xy) (v : Word) : Cpu :=
  match x with
  | .ix => { u with ix := v } | .iy => { u with iy := v }

/-- A pair with a new value. -/
def withRp (u : Cpu) (p : Rp) (v : Word) : Cpu :=
  match p with
  | .bc => { u with b := hiByte v, c := loByte v } | .de => { u with d := hiByte v, e := loByte v }
  | .hl => { u with h := hiByte v, l := loByte v } | .sp => { u with sp := v }

/-- A stack pair with a new value. -/
def withRp2 (u : Cpu) (p : Rp2) (v : Word) : Cpu :=
  match p with
  | .bc => { u with b := hiByte v, c := loByte v } | .de => { u with d := hiByte v, e := loByte v }
  | .hl => { u with h := hiByte v, l := loByte v } | .af => { u with a := hiByte v, f := loByte v }

/-- A and F with new values. -/
def withAf (u : Cpu) (r : Byte × Flags) : Cpu := { u with a := r.1, f := r.2.toByte }

/-- F with new flags. -/
def withF (u : Cpu) (g : Flags) : Cpu := { u with f := g.toByte }

/-- Loads of a register from an index half (R318), each with its destination and its source. -/
def halfToRegister (x : Xy) : List (Instr × Place × Place) :=
  [(.ldBXyh x, .reg .b, .xyHigh x), (.ldBXyl x, .reg .b, .xyLow x), (.ldCXyh x, .reg .c, .xyHigh x),
   (.ldCXyl x, .reg .c, .xyLow x), (.ldDXyh x, .reg .d, .xyHigh x), (.ldDXyl x, .reg .d, .xyLow x),
   (.ldEXyh x, .reg .e, .xyHigh x), (.ldEXyl x, .reg .e, .xyLow x), (.ldAXyh x, .reg .a, .xyHigh x),
   (.ldAXyl x, .reg .a, .xyLow x)]

/-- Loads of an index half from a register. -/
def registerToHalf (x : Xy) : List (Instr × Place × Place) :=
  [(.ldXyhB x, .xyHigh x, .reg .b), (.ldXylB x, .xyLow x, .reg .b), (.ldXyhC x, .xyHigh x, .reg .c),
   (.ldXylC x, .xyLow x, .reg .c), (.ldXyhD x, .xyHigh x, .reg .d), (.ldXylD x, .xyLow x, .reg .d),
   (.ldXyhE x, .xyHigh x, .reg .e), (.ldXylE x, .xyLow x, .reg .e), (.ldXyhA x, .xyHigh x, .reg .a),
   (.ldXylA x, .xyLow x, .reg .a)]

/-- Loads of an index half from a half of the same register. -/
def halfToHalf (x : Xy) : List (Instr × Place × Place) :=
  [(.ldXyhXyh x, .xyHigh x, .xyHigh x), (.ldXyhXyl x, .xyHigh x, .xyLow x), (.ldXylXyh x, .xyLow x, .xyHigh x),
   (.ldXylXyl x, .xyLow x, .xyLow x)]

/-- The 24 loads between index halves and registers. -/
def halfLoads (x : Xy) : List (Instr × Place × Place) := halfToRegister x ++ registerToHalf x ++ halfToHalf x

/-- What a register operand holds; an operand in memory, the byte a read of it is answered. -/
def held (s : State) : Place → Byte
  | .reg r => s.cpu.r8 r
  | .xyHigh x => hiByte (s.cpu.xy x)
  | .xyLow x => loByte (s.cpu.xy x)
  | .atHl => answer s s.cpu.hl
  | .indexed x d => answer s (s.cpu.xy x + d.signExtend 16)

/-- The processor record after writing a register operand; an operand in memory leaves it. -/
def withPlace (u : Cpu) (p : Place) (v : Byte) : Cpu :=
  match p with
  | .reg r => withR8 u r v
  | .xyHigh x => withXyHigh u x v
  | .xyLow x => withXyLow u x v
  | .atHl | .indexed _ _ => u

/-- The flags F holds, by the bits of R37. -/
def flagsOf (u : Cpu) : Flags where
  s := u.f.getLsbD 7
  z := u.f.getLsbD 6
  f5 := u.f.getLsbD 5
  h := u.f.getLsbD 4
  f3 := u.f.getLsbD 3
  pv := u.f.getLsbD 2
  n := u.f.getLsbD 1
  c := u.f.getLsbD 0

/-- The condition codes on the bits of F (R39). -/
def holds (cc : Cond) (u : Cpu) : Bool :=
  match cc with
  | .nz => !u.f.getLsbD 6 | .z => u.f.getLsbD 6 | .nc => !u.f.getLsbD 0 | .c => u.f.getLsbD 0
  | .po => !u.f.getLsbD 2 | .pe => u.f.getLsbD 2 | .p => !u.f.getLsbD 7 | .m => u.f.getLsbD 7

/-- The indexed effective address (R105). -/
def eaOf (s : State) (x : Xy) (d : Byte) : Word := s.cpu.xy x + d.signExtend 16

/-- R after `n` opcode fetches: bit 7 kept, the other bits counted modulo 128 (R41). -/
def refreshed (r : Byte) (n : Nat) : Byte :=
  BitVec.ofNat 8 (r.toNat / 128 * 128 + (r.toNat + n) % 128)

/-- The end-of-step countdown on the processor record (R707). -/
def counted (u : Cpu) : Cpu :=
  match u.eiDelay with
  | 0 => u
  | 1 => { u with eiDelay := 0, iff1 := true, iff2 := true }
  | 2 => { u with eiDelay := 1 }

/-- How a step that completes ends: the countdown, then the cycles of the step (R112, R707, R808); a step that has
raised IllegalOpcode ends without either (R702). -/
def ended (t : State) : State :=
  match t.faultMark with
  | some _ => t
  | none => { t with cpu := { counted t.cpu with cycles := t.cpu.cycles + t.delta } }

/-- The next state of an outcome changed by `k`; a fault or a refusal as it is. -/
def thenEnd (r : Res) (k : State → State) : Res :=
  match r with
  | .next t => .next (k t)
  | .fault e => .fault e
  | .refused e => .refused e

/-- Whether an instruction is the fallback row. -/
def isFallback : Instr → Bool
  | .xyFallback _ _ => true
  | _ => false

/-- Whether an instruction is one of the three illegal rows. -/
def isIllegal : Instr → Bool
  | .illegalEd _ | .illegalEd70 | .illegalEd71 => true
  | _ => false

/-- The call served next is Step(), and `rest` are the calls after it: the script begins with it, or is empty. -/
def StepNext (s : State) (rest : List HostCall) : Prop := s.calls = .step :: rest ∨ s.calls = [] ∧ rest = []

/-- The start of a call: what the last call left is cleared, and `rest` are the calls after this one. -/
def fresh (s : State) (rest : List HostCall) : State :=
  { s with calls := rest, bus := [], delta := 0, start := s.cpu, chain := [], pending := none }

/-- The host's memory after it has stored these bytes. -/
def storesMade (stores : List (Word × Byte)) (m : Memory) : Memory :=
  stores.foldl (fun m x => m.write x.1.toNat x.2) m

/-- The state after a read of `a`: the access made, and the host's reaction used up. -/
def afterRead (s : State) (a : Word) : State :=
  { s with
    mem := storesMade ((reaction s).stores.getD []) s.mem
    memHost := s.memHost.tail
    bus := rd s a :: s.bus }

/-- The trap hook does not handle the instruction at PC: there is none, its answers are used up, or its next answer is
"not handled", after the host has done `act`. `hook` are the answers left, `asked` the consultation if there is one. -/
def HookPasses (s : State) (act : HostAction) (hook : Option (List HookAnswer)) (asked : List BusAccess) : Prop :=
  let consulted := [.trapHook s.cpu.pc (answer s s.cpu.pc) false]
  s.hook = none ∧ act = {} ∧ hook = none ∧ asked = [] ∨
  s.hook = some [] ∧ act = {} ∧ hook = some [] ∧ asked = consulted ∨
  ∃ later, s.hook = some ({ handled := false, act := act } :: later) ∧ hook = some later ∧ asked = consulted

/-- A step in which an instruction is dispatched: the call is a Step(), no mark stands, the core is not halted, and
the hook does not handle the instruction. -/
def Dispatches (s : State) (rest : List HostCall) (act : HostAction) (hook : Option (List HookAnswer))
    (asked : List BusAccess) : Prop :=
  StepNext s rest ∧ s.faultMark = none ∧ s.refusedMark = none ∧ s.cpu.halted = false ∧ HookPasses s act hook asked

/-- The state after the first byte of such a step: one read at PC, the hook consulted, and PC and R advanced from the
record the host left (log entry 15). -/
def begun (s : State) (rest : List HostCall) (act : HostAction) (hook : Option (List HookAnswer))
    (asked : List BusAccess) : State :=
  let read := afterRead (fresh s rest) s.cpu.pc
  let u := act.cpu.getD s.cpu
  { read with
    cpu := { u with pc := u.pc + 1, r := refreshed u.r 1 }
    mem := storesMade act.stores read.mem
    bus := asked ++ read.bus
    hook := hook }

/-- The state after `n` fetches at PC; opcode fetches count in R, operand fetches do not (R113, R114). -/
def fetches (opcode : Bool) (n : Nat) (s : State) : State :=
  match n with
  | 0 => s
  | n + 1 =>
    fetches opcode n
      { afterRead s s.cpu.pc with
        cpu := { s.cpu with pc := s.cpu.pc + 1, r := if opcode then refreshed s.cpu.r 1 else s.cpu.r } }

/-- The bytes the host answers to `n` fetches, in order. -/
def answers (n : Nat) (s : State) : List Byte :=
  match n with
  | 0 => []
  | n + 1 => answer s s.cpu.pc :: answers n (fetches false 1 s)

/-- The state in which an instruction runs whose first byte is `op`, with `more` bytes behind it: `ops` opcode fetches
up to its first byte, one more where that is a prefix, and operand fetches for the rest. -/
def fetched (op : Byte) (ops more : Nat) (s : State) : State :=
  if isPrefix op then fetches false (more - 1) (fetches true (ops + 1) s) else fetches false more (fetches true ops s)

end Sys2Proof.Claims

open Sys2Proof Sys2Proof.Machine Sys2Proof.Claims

-- Encoding

/-- Words written out bit by bit from the encodings of spec/30_encoding.md and of the instruction rules decode to
the instruction they stand for, with its length. One from each family of the opcode table. -/
def Obligations.DecodesSpecWords : Prop :=
  decodeBytes 0b01_111_000#8 0 0 0 = (.ldRR .a .b, 1) ∧
  decodeBytes 0b00_110_110#8 0xAA 0 0 = (.ldMhlN 0xAA, 2) ∧
  decodeBytes 0b00_000_001#8 0x34 0x12 0 = (.ldRpNn .bc 0x1234, 3) ∧
  decodeBytes 0b10_011_110#8 0 0 0 = (.sbcAMhl, 1) ∧
  decodeBytes 0b11_101_110#8 0x0F 0 0 = (.xorN 0x0F, 2) ∧
  decodeBytes 0b00_111_000#8 0xFC 0 0 = (.jrCc .c 0xFC, 2) ∧
  decodeBytes 0b11_111_100#8 0x00 0x90 0 = (.callCcNn .m 0x9000, 3) ∧
  decodeBytes 0b11_110_101#8 0 0 0 = (.pushRp2 .af, 1) ∧
  decodeBytes 0xCB 0b00_101_101#8 0 0 = (.sraR .l, 2) ∧
  decodeBytes 0xCB 0b01_011_110#8 0 0 = (.bitBMhl 3, 2) ∧
  decodeBytes 0xED 0b01_111_011#8 0x00 0x80 = (.ldRpMnn .sp 0x8000, 4) ∧
  decodeBytes 0xED 0b10_110_001#8 0 0 = (.cpir, 2) ∧
  decodeBytes 0xED 0b01_101_000#8 0 0 = (.inRMc .l, 2) ∧
  decodeBytes 0xDD 0b01_100_110#8 0xFE 0 = (.ldHMxyd .ix 0xFE, 3) ∧
  decodeBytes 0xFD 0b00_101_110#8 0x99 0 = (.ldXylN .iy 0x99, 3) ∧
  decodeBytes 0xFD 0xCB 0x02 0b11_011_100#8 = (.setBMxydR .iy 0x02 3 .h, 4) ∧
  decodeBytes 0xDD 0b11_101_011#8 0 0 = (.xyFallback .ix 0xEB, 2)

/-- Encoding an instruction and decoding the bytes gives the instruction back, whatever bytes follow: for every
well-formed instruction, with every operand at every value. -/
def Obligations.DecodeOfEncode : Prop :=
  ∀ (i : Instr) (rest : List Byte), i.wellFormed = true → decode (encode i ++ rest) = .ok (i, rest)

/-- Every byte sequence decodes to a well-formed instruction, and encoding that instruction gives its bytes back: no
byte sequence is without a meaning and no two read as one instruction (R116, R118). -/
def Obligations.EncodeOfDecode : Prop :=
  ∀ b0 b1 b2 b3 : Byte,
    (decodeBytes b0 b1 b2 b3).1.wellFormed = true ∧
    encode (decodeBytes b0 b1 b2 b3).1 = [b0, b1, b2, b3].take (decodeBytes b0 b1 b2 b3).2 ∧
    1 ≤ (decodeBytes b0 b1 b2 b3).2 ∧ (decodeBytes b0 b1 b2 b3).2 ≤ 4

/-- An ED sub-opcode is illegal exactly when it is none of the 58 of R109; a byte after DD or FD falls back exactly
when it is one of the 170 of R110; no other first byte leads to an illegal or fallback row. -/
def Obligations.PrefixedBytesClassified : Prop :=
  ∀ b0 b1 b2 b3 : Byte,
    (isIllegal (decodeBytes b0 b1 b2 b3).1 = true ↔ b0 = 0xED ∧ b1 ∉ edOpcodes) ∧
    (isFallback (decodeBytes b0 b1 b2 b3).1 = true ↔ (b0 = 0xDD ∨ b0 = 0xFD) ∧ b1 ∈ fallbackOpcodes)

-- Registers and memory

/-- Reading and writing registers (R32, R34): a register reads as written and leaves the other six and F; a pair is
the view of its halves, high byte first, in both directions; an index register leaves the other one. -/
def Obligations.RegisterFile : Prop :=
  (∀ (u : Cpu) (r q : R8) (v : Byte),
    (u.setR8 r v).r8 q = (if q = r then v else u.r8 q) ∧ (u.setR8 r v).f = u.f) ∧
  (∀ u : Cpu, u.af.toNat = 256 * u.a.toNat + u.f.toNat ∧ u.bc.toNat = 256 * u.b.toNat + u.c.toNat ∧
    u.de.toNat = 256 * u.d.toNat + u.e.toNat ∧ u.hl.toNat = 256 * u.h.toNat + u.l.toNat) ∧
  (∀ (u : Cpu) (p q : Rp) (v : Word), (u.setRp p v).rp q = if q = p then v else u.rp q) ∧
  (∀ (u : Cpu) (p q : Rp2) (v : Word), (u.setRp2 p v).rp2 q = if q = p then v else u.rp2 q) ∧
  (∀ (u : Cpu) (x y : Xy) (v : Word), (u.setXy x v).xy y = if y = x then v else u.xy y)

/-- Memory. How the host serves an access is data (log entry 5): a read is answered the byte its reaction says, or
the byte held; a write is stored as its reaction says, or at its address; each access uses up one reaction. A host
with nothing prepared is plain memory (R82; that memory is plain then is the model's choice, log entry 5): a byte
stored is read back, every other byte is as before, and the two bytes of a 16-bit store lie low byte first at the
address and the next one, modulo 65,536 (R72, R73). -/
def Obligations.MemoryReadsAsWritten : Prop :=
  (∀ (s : State) (a b : Word) (v : Byte),
    (s.memRead a).1 = (reaction s).answer.getD (s.byteAt a) ∧
    (s.memRead a).2.byteAt b = afterStores ((reaction s).stores.getD []) b (s.byteAt b) ∧
    (s.memRead a).2.memHost = s.memHost.tail ∧
    (s.memWrite a v).byteAt b = afterStores ((reaction s).stores.getD [(a, v)]) b (s.byteAt b) ∧
    (s.memWrite a v).memHost = s.memHost.tail) ∧
  (∀ s : State, s.memHost = [] →
    (∀ (a b : Word) (v : Byte), (s.memWrite a v).byteAt b = if b = a then v else s.byteAt b) ∧
    (∀ a b v : Word,
      (s.memWrite16 a v).byteAt b =
        if b = a + 1 then hiByte v else if b = a then loByte v else s.byteAt b) ∧
    (∀ a v : Word, ((s.memWrite16 a v).memRead16 a).1 = v))

-- 8-bit loads

/-- Loads between registers, of immediates and of index halves: the destination takes the value, nothing else
changes, memory is neither read nor written. Constructors ldRR, ldRN, ldXyhN, ldXylN and the 24 of `halfLoads`. -/
def Obligations.LoadsBetweenRegisters : Prop :=
  (∀ (r q : R8) (s : State), Runs (.ldRR r q) s (withR8 s.cpu r (s.cpu.r8 q)) [] 4) ∧
  (∀ (r : R8) (n : Byte) (s : State), Runs (.ldRN r n) s (withR8 s.cpu r n) [] 7) ∧
  (∀ (x : Xy) (n : Byte) (s : State), Runs (.ldXyhN x n) s (withXyHigh s.cpu x n) [] 11) ∧
  (∀ (x : Xy) (n : Byte) (s : State), Runs (.ldXylN x n) s (withXyLow s.cpu x n) [] 11) ∧
  (∀ (x : Xy) (s : State), ∀ e ∈ halfLoads x, Runs e.1 s (withPlace s.cpu e.2.1 (held s e.2.2)) [] 8)

/-- Loads from memory: one read of the address, the destination takes the byte, no byte of memory changes.
Constructors ldRMhl, ldAMbc, ldAMde, ldAMnn and ldBMxyd to ldAMxyd (H and L named by codes 4 and 5 are H and L). -/
def Obligations.LoadsFromMemory : Prop :=
  (∀ (r : R8) (s : State), Runs (.ldRMhl r) s (withR8 s.cpu r (answer s s.cpu.hl)) [rd s s.cpu.hl] 7) ∧
  (∀ s : State, Runs .ldAMbc s { s.cpu with a := answer s s.cpu.bc } [rd s s.cpu.bc] 7) ∧
  (∀ s : State, Runs .ldAMde s { s.cpu with a := answer s s.cpu.de } [rd s s.cpu.de] 7) ∧
  (∀ (nn : Word) (s : State), Runs (.ldAMnn nn) s { s.cpu with a := answer s nn } [rd s nn] 13) ∧
  (∀ (x : Xy) (d : Byte) (s : State),
    Runs (.ldBMxyd x d) s { s.cpu with b := answer s (eaOf s x d) } [rd s (eaOf s x d)] 19 ∧
    Runs (.ldCMxyd x d) s { s.cpu with c := answer s (eaOf s x d) } [rd s (eaOf s x d)] 19 ∧
    Runs (.ldDMxyd x d) s { s.cpu with d := answer s (eaOf s x d) } [rd s (eaOf s x d)] 19 ∧
    Runs (.ldEMxyd x d) s { s.cpu with e := answer s (eaOf s x d) } [rd s (eaOf s x d)] 19 ∧
    Runs (.ldHMxyd x d) s { s.cpu with h := answer s (eaOf s x d) } [rd s (eaOf s x d)] 19 ∧
    Runs (.ldLMxyd x d) s { s.cpu with l := answer s (eaOf s x d) } [rd s (eaOf s x d)] 19 ∧
    Runs (.ldAMxyd x d) s { s.cpu with a := answer s (eaOf s x d) } [rd s (eaOf s x d)] 19)

/-- Stores to memory: one write at the address the operand gives, every other byte and the whole processor record
as before. Constructors ldMhlR, ldMhlN, ldMbcA, ldMdeA, ldMnnA, ldMxydN and ldMxydB to ldMxydA. -/
def Obligations.StoresToMemory : Prop :=
  (∀ (r : R8) (s : State), Runs (.ldMhlR r) s s.cpu [.memWrite s.cpu.hl (s.cpu.r8 r)] 7) ∧
  (∀ (n : Byte) (s : State), Runs (.ldMhlN n) s s.cpu [.memWrite s.cpu.hl n] 10) ∧
  (∀ s : State, Runs .ldMbcA s s.cpu [.memWrite s.cpu.bc s.cpu.a] 7) ∧
  (∀ s : State, Runs .ldMdeA s s.cpu [.memWrite s.cpu.de s.cpu.a] 7) ∧
  (∀ (nn : Word) (s : State), Runs (.ldMnnA nn) s s.cpu [.memWrite nn s.cpu.a] 13) ∧
  (∀ (x : Xy) (d n : Byte) (s : State), Runs (.ldMxydN x d n) s s.cpu [.memWrite (eaOf s x d) n] 19) ∧
  (∀ (x : Xy) (d : Byte) (s : State),
    Runs (.ldMxydB x d) s s.cpu [.memWrite (eaOf s x d) s.cpu.b] 19 ∧
    Runs (.ldMxydC x d) s s.cpu [.memWrite (eaOf s x d) s.cpu.c] 19 ∧
    Runs (.ldMxydD x d) s s.cpu [.memWrite (eaOf s x d) s.cpu.d] 19 ∧
    Runs (.ldMxydE x d) s s.cpu [.memWrite (eaOf s x d) s.cpu.e] 19 ∧
    Runs (.ldMxydH x d) s s.cpu [.memWrite (eaOf s x d) s.cpu.h] 19 ∧
    Runs (.ldMxydL x d) s s.cpu [.memWrite (eaOf s x d) s.cpu.l] 19 ∧
    Runs (.ldMxydA x d) s s.cpu [.memWrite (eaOf s x d) s.cpu.a] 19)

/-- Loads between A and the registers I and R: LD A,I and LD A,R set S, Z, 5 and 3 from the value, clear H and N,
copy IFF2 to PV and keep C; LD I,A and LD R,A change I or R alone. Constructors ldAI, ldAR, ldIA, ldRA. -/
def Obligations.InterruptAndRefreshLoads : Prop :=
  ∀ s : State,
    let loaded (v : Byte) : Flags :=
      { s := v.getLsbD 7, z := v == 0, f5 := v.getLsbD 5, h := false, f3 := v.getLsbD 3, pv := s.cpu.iff2,
        n := false, c := s.cpu.f.getLsbD 0 }
    Runs .ldAI s (withAf s.cpu (s.cpu.i, loaded s.cpu.i)) [] 9 ∧
    Runs .ldAR s (withAf s.cpu (s.cpu.r, loaded s.cpu.r)) [] 9 ∧
    Runs .ldIA s { s.cpu with i := s.cpu.a } [] 9 ∧
    Runs .ldRA s { s.cpu with r := s.cpu.a } [] 9

-- 16-bit loads and the stack

/-- 16-bit loads of immediates and of SP. Constructors ldRpNn, ldXyNn, ldSpHl, ldSpXy. -/
def Obligations.WordLoads : Prop :=
  (∀ (p : Rp) (nn : Word) (s : State), Runs (.ldRpNn p nn) s (withRp s.cpu p nn) [] 10) ∧
  (∀ (x : Xy) (nn : Word) (s : State), Runs (.ldXyNn x nn) s (withXy s.cpu x nn) [] 14) ∧
  (∀ s : State, Runs .ldSpHl s { s.cpu with sp := s.cpu.hl } [] 6) ∧
  (∀ (x : Xy) (s : State), Runs (.ldSpXy x) s { s.cpu with sp := s.cpu.xy x } [] 10)

/-- 16-bit loads from and stores to an absolute address: low byte at nn, high byte at nn + 1, the low one accessed
first; a load changes no byte of memory, a store only these two. Constructors ldHlMnn, ldRpMnn, ldXyMnn, ldMnnHl,
ldMnnRp, ldMnnXy. -/
def Obligations.WordMemoryTransfers : Prop :=
  ∀ (nn : Word) (s : State),
    Runs (.ldHlMnn nn) s (withRp s.cpu .hl (wordAt s nn)) (rd16 s nn) 16 ∧
    (∀ p, Runs (.ldRpMnn p nn) s (withRp s.cpu p (wordAt s nn)) (rd16 s nn) 20) ∧
    (∀ x, Runs (.ldXyMnn x nn) s (withXy s.cpu x (wordAt s nn)) (rd16 s nn) 20) ∧
    Runs (.ldMnnHl nn) s s.cpu (wr16 nn s.cpu.hl) 16 ∧
    (∀ p, Runs (.ldMnnRp p nn) s s.cpu (wr16 nn (s.cpu.rp p)) 20) ∧
    (∀ x, Runs (.ldMnnXy x nn) s s.cpu (wr16 nn (s.cpu.xy x)) 20)

/-- Push writes the high byte at SP − 1 and the low byte at SP − 2 and leaves SP there; pop reads the low byte at SP
and the high byte at SP + 1 and leaves SP + 2; POP AF writes all of F. Constructors pushRp2, pushXy, popRp2,
popXy. -/
def Obligations.PushAndPop : Prop :=
  ∀ s : State,
    (∀ p, Runs (.pushRp2 p) s { s.cpu with sp := s.cpu.sp - 2 } (pushes s.cpu.sp (s.cpu.rp2 p)) 11) ∧
    (∀ x, Runs (.pushXy x) s { s.cpu with sp := s.cpu.sp - 2 } (pushes s.cpu.sp (s.cpu.xy x)) 15) ∧
    (∀ p, Runs (.popRp2 p) s (withRp2 { s.cpu with sp := s.cpu.sp + 2 } p (wordAt s s.cpu.sp))
      (rd16 s s.cpu.sp) 10) ∧
    (∀ x, Runs (.popXy x) s (withXy { s.cpu with sp := s.cpu.sp + 2 } x (wordAt s s.cpu.sp))
      (rd16 s s.cpu.sp) 14)

-- Exchanges and block instructions

/-- The exchanges: DE with HL, AF with its shadow, BC, DE and HL with their shadows, and HL or an index register
with the word at the top of the stack (both reads, then both writes; SP stays). Constructors exDeHl, exAfAf, exx,
exMspHl, exMspXy. -/
def Obligations.Exchanges : Prop :=
  ∀ s : State,
    Runs .exDeHl s { s.cpu with d := s.cpu.h, e := s.cpu.l, h := s.cpu.d, l := s.cpu.e } [] 4 ∧
    Runs .exAfAf s
      { s.cpu with
        a := hiByte s.cpu.afShadow, f := loByte s.cpu.afShadow, afShadow := wordOf s.cpu.a s.cpu.f } [] 4 ∧
    Runs .exx s
      { s.cpu with
        b := hiByte s.cpu.bcShadow, c := loByte s.cpu.bcShadow, d := hiByte s.cpu.deShadow,
        e := loByte s.cpu.deShadow, h := hiByte s.cpu.hlShadow, l := loByte s.cpu.hlShadow,
        bcShadow := wordOf s.cpu.b s.cpu.c, deShadow := wordOf s.cpu.d s.cpu.e,
        hlShadow := wordOf s.cpu.h s.cpu.l } [] 4 ∧
    Runs .exMspHl s { s.cpu with h := answerAfter s [rd s s.cpu.sp] (s.cpu.sp + 1), l := answer s s.cpu.sp }
      (rd16 s s.cpu.sp ++ wr16 s.cpu.sp s.cpu.hl) 19 ∧
    (∀ x, Runs (.exMspXy x) s (withXy s.cpu x (wordAt s s.cpu.sp))
      (rd16 s s.cpu.sp ++ wr16 s.cpu.sp (s.cpu.xy x)) 23)

/-- One block transfer: the byte at HL goes to DE, HL and DE step by `step`, BC counts down; H and N clear, PV is BC
≠ 0, 5 and 3 are bits 1 and 3 of A plus the byte, S, Z and C stay. The repeating forms go back to their ED prefix
at 21 cycles while BC ≠ 0. Constructors ldi, ldd, ldir, lddr. -/
def Obligations.BlockTransfers : Prop :=
  ∀ s : State,
    let v := answer s s.cpu.hl
    let bc := s.cpu.bc - 1
    let g : Flags :=
      { flagsOf s.cpu with
        f5 := (s.cpu.a + v).getLsbD 1, h := false, f3 := (s.cpu.a + v).getLsbD 3, pv := bc != 0, n := false }
    let moved (step : Word) : Cpu :=
      withF (withRp (withRp (withRp s.cpu .hl (s.cpu.hl + step)) .de (s.cpu.de + step)) .bc bc) g
    let accesses := [rd s s.cpu.hl, .memWrite s.cpu.de v]
    let again (u : Cpu) : Cpu := if bc = 0 then u else { u with pc := u.pc - 2 }
    let cost := if bc = 0 then 16 else 21
    Runs .ldi s (moved 1) accesses 16 ∧ Runs .ldd s (moved (-1)) accesses 16 ∧
    Runs .ldir s (again (moved 1)) accesses cost ∧ Runs .lddr s (again (moved (-1))) accesses cost

/-- One block compare: HL steps, BC counts down, A and memory stay; S and Z from A minus the byte, H its half-borrow,
PV is BC ≠ 0, N is 1, 5 and 3 are bits 1 and 3 of that difference minus H, C stays. The repeating forms go back to
their ED prefix at 21 cycles while BC ≠ 0 and the byte is not A. Constructors cpi, cpd, cpir, cpdr. -/
def Obligations.BlockCompares : Prop :=
  ∀ s : State,
    let v := answer s s.cpu.hl
    let bc := s.cpu.bc - 1
    let half := decide (s.cpu.a.toNat % 16 < v.toNat % 16)
    let k : Byte := s.cpu.a - v - (if half then 1 else 0)
    let g : Flags :=
      { flagsOf s.cpu with
        s := (s.cpu.a - v).getLsbD 7, z := s.cpu.a - v == 0, f5 := k.getLsbD 1, h := half, f3 := k.getLsbD 3,
        pv := bc != 0, n := true }
    let moved (step : Word) : Cpu := withF (withRp (withRp s.cpu .hl (s.cpu.hl + step)) .bc bc) g
    let again (u : Cpu) : Cpu := if bc = 0 ∨ s.cpu.a = v then u else { u with pc := u.pc - 2 }
    let cost := if bc = 0 ∨ s.cpu.a = v then 16 else 21
    Runs .cpi s (moved 1) [rd s s.cpu.hl] 16 ∧ Runs .cpd s (moved (-1)) [rd s s.cpu.hl] 16 ∧
    Runs .cpir s (again (moved 1)) [rd s s.cpu.hl] cost ∧ Runs .cpdr s (again (moved (-1))) [rd s s.cpu.hl] cost

-- 8-bit arithmetic and logic

/-- The accumulator operations on registers, immediates and index halves: A and F take what `alu8` gives for A, the
operand and the old flags; nothing else changes. Constructors of the eight operations with suffixes R, N, Xyh
and Xyl (addAR, addAN, addAXyh, addAXyl to cpR, cpN, cpXyh, cpXyl). Bits 5 and 3 after an addition are the model's
choice (log entry 20). -/
def Obligations.AccumulatorOnRegisters : Prop :=
  ∀ (op : AluOp) (s : State),
    let after (v : Byte) : Cpu := withAf s.cpu (alu8 op s.cpu.a v (flagsOf s.cpu))
    (∀ r, Runs (aluR op r) s (after (s.cpu.r8 r)) [] 4) ∧
    (∀ n, Runs (aluN op n) s (after n) [] 7) ∧
    (∀ x, Runs (aluXyh op x) s (after (hiByte (s.cpu.xy x))) [] 8) ∧
    (∀ x, Runs (aluXyl op x) s (after (loByte (s.cpu.xy x))) [] 8)

/-- The accumulator operations on memory: the operand is read once, and no byte of memory changes. Constructors of
the eight operations with suffixes Mhl and Mxyd (addAMhl, addAMxyd to cpMhl, cpMxyd). Bits 5 and 3 after an addition
are the model's choice (log entry 20). -/
def Obligations.AccumulatorOnMemory : Prop :=
  ∀ (op : AluOp) (s : State),
    let after (v : Byte) : Cpu := withAf s.cpu (alu8 op s.cpu.a v (flagsOf s.cpu))
    Runs (aluMhl op) s (after (answer s s.cpu.hl)) [rd s s.cpu.hl] 7 ∧
    (∀ x d, Runs (aluMxyd op x d) s (after (answer s (eaOf s x d))) [rd s (eaOf s x d)] 19)

/-- INC and DEC of every 8-bit operand: the operand and F take what `inc8` and `dec8` give, with one read and one
write of the same address for an operand in memory. Constructors incR, decR, incXyh, decXyh, incXyl, decXyl,
incMhl, decMhl, incMxyd, decMxyd. -/
def Obligations.IncrementsAndDecrements : Prop :=
  ∀ s : State,
    let inc (v : Byte) := inc8 v (flagsOf s.cpu)
    let dec (v : Byte) := dec8 v (flagsOf s.cpu)
    let hi (x : Xy) := hiByte (s.cpu.xy x)
    let lo (x : Xy) := loByte (s.cpu.xy x)
    (∀ r, Runs (.incR r) s (withR8 (withF s.cpu (inc (s.cpu.r8 r)).2) r (inc (s.cpu.r8 r)).1) [] 4 ∧
      Runs (.decR r) s (withR8 (withF s.cpu (dec (s.cpu.r8 r)).2) r (dec (s.cpu.r8 r)).1) [] 4) ∧
    (∀ x, Runs (.incXyh x) s (withXyHigh (withF s.cpu (inc (hi x)).2) x (inc (hi x)).1) [] 8 ∧
      Runs (.decXyh x) s (withXyHigh (withF s.cpu (dec (hi x)).2) x (dec (hi x)).1) [] 8 ∧
      Runs (.incXyl x) s (withXyLow (withF s.cpu (inc (lo x)).2) x (inc (lo x)).1) [] 8 ∧
      Runs (.decXyl x) s (withXyLow (withF s.cpu (dec (lo x)).2) x (dec (lo x)).1) [] 8) ∧
    (let v := answer s s.cpu.hl;
      Runs .incMhl s (withF s.cpu (inc v).2) [rd s s.cpu.hl, .memWrite s.cpu.hl (inc v).1] 11 ∧
      Runs .decMhl s (withF s.cpu (dec v).2) [rd s s.cpu.hl, .memWrite s.cpu.hl (dec v).1] 11) ∧
    (∀ x d,
      let a := eaOf s x d
      let v := answer s a
      Runs (.incMxyd x d) s (withF s.cpu (inc v).2) [rd s a, .memWrite a (inc v).1] 23 ∧
      Runs (.decMxyd x d) s (withF s.cpu (dec v).2) [rd s a, .memWrite a (dec v).1] 23)

-- Accumulator adjust, flags, CPU control

/-- DAA, CPL, NEG, CCF and SCF change A and F alone: CPL sets H and N and keeps S, Z, PV, C; NEG is 0 − A; CCF copies
C to H and complements it; SCF sets it; 5 and 3 come from the new A. Constructors daa, cpl, neg, ccf, scf. -/
def Obligations.AccumulatorAdjust : Prop :=
  ∀ s : State,
    let a := s.cpu.a
    let g := flagsOf s.cpu
    Runs .daa s (withAf s.cpu (daa a g)) [] 4 ∧
    Runs .cpl s
      (withAf s.cpu
        (~~~a, { g with h := true, n := true, f5 := (~~~a).getLsbD 5, f3 := (~~~a).getLsbD 3 })) [] 4 ∧
    Runs .neg s (withAf s.cpu (sub8 0 a false)) [] 8 ∧
    Runs .ccf s
      (withF s.cpu { g with h := g.c, n := false, c := !g.c, f5 := a.getLsbD 5, f3 := a.getLsbD 3 }) [] 4 ∧
    Runs .scf s
      (withF s.cpu { g with h := false, n := false, c := true, f5 := a.getLsbD 5, f3 := a.getLsbD 3 }) [] 4

/-- NOP changes nothing, HALT sets the halted bit alone, IM 0, 1 and 2 set the interrupt mode alone. Constructors
nop, halt, im0, im1, im2. -/
def Obligations.NopHaltAndModes : Prop :=
  ∀ s : State,
    Runs .nop s s.cpu [] 4 ∧ Runs .halt s { s.cpu with halted := true } [] 4 ∧
    Runs .im0 s { s.cpu with im := .mode0 } [] 8 ∧ Runs .im1 s { s.cpu with im := .mode1 } [] 8 ∧
    Runs .im2 s { s.cpu with im := .mode2 } [] 8

/-- DI clears both flip-flops, and the EI delay where the parameter DiCancelsEiDelay says so; EI arms the delay to 2
unless it is armed, and writes neither flip-flop. Constructors di, ei. -/
def Obligations.DisableAndEnable : Prop :=
  ∀ s : State,
    Runs .di s
      { s.cpu with
        iff1 := false, iff2 := false,
        eiDelay := if s.params.diCancelsEiDelay = true then 0 else s.cpu.eiDelay } [] 4 ∧
    (s.cpu.eiDelay = 0 → Runs .ei s { s.cpu with eiDelay := 2 } [] 4) ∧
    (s.cpu.eiDelay ≠ 0 → Runs .ei s s.cpu [] 4)

/-- The illegal ED rows take the IllegalOpcode exception: the processor record is the one before the step, the fault
mark records PC at the start of the step, the prefixes fetched and the sub-opcode, the step costs nothing, and
memory, the accesses made and all else stay. Constructors illegalEd, illegalEd70, illegalEd71. -/
def Obligations.IllegalOpcodesRollBack : Prop :=
  ∀ s : State,
    let raised (op : Byte) : State :=
      { s with
        cpu := s.start, delta := 0,
        faultMark := some { addr := s.start.pc, prefixes := s.chain ++ [0xED], opcode := op } }
    (∀ op, exec (.illegalEd op) s = .next (raised op)) ∧
    exec .illegalEd70 s = .next (raised 0x70) ∧ exec .illegalEd71 s = .next (raised 0x71)

-- 16-bit arithmetic

/-- 16-bit additions and subtractions: the destination and F take what the primitive gives; nothing else changes.
Constructors addHlRp, adcHlRp, sbcHlRp, addXyPp. -/
def Obligations.WordArithmetic : Prop :=
  ∀ s : State,
    let g := flagsOf s.cpu
    let onHl (r : Word × Flags) : Cpu := withF (withRp s.cpu .hl r.1) r.2
    (∀ p, Runs (.addHlRp p) s (onHl (add16 s.cpu.hl (s.cpu.rp p) g)) [] 11 ∧
      Runs (.adcHlRp p) s (onHl (adc16 s.cpu.hl (s.cpu.rp p) g.c)) [] 15 ∧
      Runs (.sbcHlRp p) s (onHl (sbc16 s.cpu.hl (s.cpu.rp p) g.c)) [] 15) ∧
    (∀ x p,
      let r := add16 (s.cpu.xy x) (s.cpu.pp x p) g
      Runs (.addXyPp x p) s (withF (withXy s.cpu x r.1) r.2) [] 15)

/-- INC and DEC of a pair or an index register wrap and change no flag. Constructors incRp, decRp, incXy, decXy. -/
def Obligations.WordIncrements : Prop :=
  ∀ s : State,
    (∀ p, Runs (.incRp p) s (withRp s.cpu p (s.cpu.rp p + 1)) [] 6 ∧
      Runs (.decRp p) s (withRp s.cpu p (s.cpu.rp p - 1)) [] 6) ∧
    (∀ x, Runs (.incXy x) s (withXy s.cpu x (s.cpu.xy x + 1)) [] 10 ∧
      Runs (.decXy x) s (withXy s.cpu x (s.cpu.xy x - 1)) [] 10)

-- Rotates, shifts, bits

/-- The accumulator rotates: A takes the rotated value, C the bit shifted out, 5 and 3 the result's bits, H and N
clear, S, Z and PV stay. Constructors rlca, rla, rrca, rra. -/
def Obligations.AccumulatorRotates : Prop :=
  ∀ s : State,
    let after (op : RotOp) : Cpu :=
      let r := rot8 op s.cpu.a (s.cpu.f.getLsbD 0)
      withAf s.cpu
        (r.1, { flagsOf s.cpu with f5 := r.1.getLsbD 5, h := false, f3 := r.1.getLsbD 3, n := false, c := r.2 })
    Runs .rlca s (after .rlc) [] 4 ∧ Runs .rla s (after .rl) [] 4 ∧
    Runs .rrca s (after .rrc) [] 4 ∧ Runs .rra s (after .rr) [] 4

/-- Rotates and shifts of registers, (HL), (xy+d) and (xy+d) with the register copy: the operand takes the result, an
operand in memory with one read and one write of its address; S, Z, 5, 3 and PV from the result, H and N clear, C
the bit shifted out. Constructors of the eight operations with suffixes R, Mhl, Mxyd and MxydR (rlcR to srlMxydR). -/
def Obligations.RotatesAndShifts : Prop :=
  ∀ (op : RotOp) (s : State),
    let res (v : Byte) : Byte := (rot8 op v (s.cpu.f.getLsbD 0)).1
    let flg (v : Byte) : Flags :=
      { s := (res v).getLsbD 7, z := res v == 0, f5 := (res v).getLsbD 5, h := false, f3 := (res v).getLsbD 3,
        pv := parity (res v), n := false, c := (rot8 op v (s.cpu.f.getLsbD 0)).2 }
    (∀ r, Runs (rotR op r) s (withR8 (withF s.cpu (flg (s.cpu.r8 r))) r (res (s.cpu.r8 r))) [] 8) ∧
    (let v := answer s s.cpu.hl;
      Runs (rotMhl op) s (withF s.cpu (flg v)) [rd s s.cpu.hl, .memWrite s.cpu.hl (res v)] 15) ∧
    (∀ x d,
      let a := eaOf s x d
      let v := answer s a
      Runs (rotMxyd op x d) s (withF s.cpu (flg v)) [rd s a, .memWrite a (res v)] 23 ∧
      (∀ r, Runs (rotMxydR op x d r) s (withR8 (withF s.cpu (flg v)) r (res v)) [rd s a, .memWrite a (res v)] 23))

/-- RLD and RRD move a digit between A and the byte at HL; S, Z, 5, 3 and PV (parity) from the new A, H and N clear,
C stays. In numbers: with A = 16h + l and the byte 16u + w, RLD leaves A = 16h + u and the byte 16w + l, RRD leaves
A = 16h + w and the byte 16l + u. Constructors rld, rrd. -/
def Obligations.DecimalRotates : Prop :=
  ∀ s : State,
    let h := s.cpu.a.toNat / 16
    let l := s.cpu.a.toNat % 16
    let u := (answer s s.cpu.hl).toNat / 16
    let w := (answer s s.cpu.hl).toNat % 16
    let after (a : Byte) : Cpu :=
      withAf s.cpu
        (a, { s := a.getLsbD 7, z := a == 0, f5 := a.getLsbD 5, h := false, f3 := a.getLsbD 3, pv := parity a,
              n := false, c := s.cpu.f.getLsbD 0 })
    Runs .rld s (after (BitVec.ofNat 8 (16 * h + u)))
      [rd s s.cpu.hl, .memWrite s.cpu.hl (BitVec.ofNat 8 (16 * w + l))] 18 ∧
    Runs .rrd s (after (BitVec.ofNat 8 (16 * h + w)))
      [rd s s.cpu.hl, .memWrite s.cpu.hl (BitVec.ofNat 8 (16 * l + u))] 18

/-- BIT b: Z and PV say that the bit is 0, S that b is 7 and the bit 1, H is 1, N 0, C stays; 5 and 3 are the
register's own bits, and for an operand in memory the bits of a free value: one draw, of which nothing is known.
Nothing is written back. Constructors bitBR, bitBMhl, bitBMxyd (whose low three bits play no part). -/
def Obligations.BitTests : Prop :=
  ∀ (b : BitVec 3) (s : State),
    let flg (v k : Byte) : Flags :=
      { s := b == 7 && v.getLsbD b.toNat, z := !v.getLsbD b.toNat, f5 := k.getLsbD 5, h := true,
        f3 := k.getLsbD 3, pv := !v.getLsbD b.toNat, n := false, c := s.cpu.f.getLsbD 0 }
    (∀ r, Runs (.bitBR b r) s (withF s.cpu (flg (s.cpu.r8 r) (s.cpu.r8 r))) [] 8) ∧
    (∃ k, RunsTo (.bitBMhl b) s (withF s.cpu (flg (answer s s.cpu.hl) k)) [rd s s.cpu.hl] 12
      (s.draws + 1) s.portIn) ∧
    (∀ x d z, ∃ k, RunsTo (.bitBMxyd x d b z) s (withF s.cpu (flg (answer s (eaOf s x d)) k))
      [rd s (eaOf s x d)] 20 (s.draws + 1) s.portIn)

/-- RES and SET of registers, (HL), (xy+d) and (xy+d) with the register copy: the result differs from the operand at
most in bit b, which is 0 or 1; no flag changes; an operand in memory is read once and written once. Constructors
resBR, setBR, resBMhl, setBMhl, resBMxyd, setBMxyd, resBMxydR, setBMxydR. -/
def Obligations.BitChanges : Prop :=
  (∀ (b : BitVec 3) (v : Byte) (k : Nat), k < 8 →
    (resBit b v).getLsbD k = (if k = b.toNat then false else v.getLsbD k) ∧
    (setBit b v).getLsbD k = (if k = b.toNat then true else v.getLsbD k)) ∧
  ∀ (b : BitVec 3) (s : State),
    (∀ r, Runs (.resBR b r) s (withR8 s.cpu r (resBit b (s.cpu.r8 r))) [] 8 ∧
      Runs (.setBR b r) s (withR8 s.cpu r (setBit b (s.cpu.r8 r))) [] 8) ∧
    (let v := answer s s.cpu.hl;
      Runs (.resBMhl b) s s.cpu [rd s s.cpu.hl, .memWrite s.cpu.hl (resBit b v)] 15 ∧
      Runs (.setBMhl b) s s.cpu [rd s s.cpu.hl, .memWrite s.cpu.hl (setBit b v)] 15) ∧
    (∀ x d,
      let a := eaOf s x d
      let v := answer s a
      Runs (.resBMxyd x d b) s s.cpu [rd s a, .memWrite a (resBit b v)] 23 ∧
      Runs (.setBMxyd x d b) s s.cpu [rd s a, .memWrite a (setBit b v)] 23 ∧
      (∀ r, Runs (.resBMxydR x d b r) s (withR8 s.cpu r (resBit b v)) [rd s a, .memWrite a (resBit b v)] 23 ∧
        Runs (.setBMxydR x d b r) s (withR8 s.cpu r (setBit b v)) [rd s a, .memWrite a (setBit b v)] 23))

-- Jumps, calls, returns

/-- The jumps change PC alone (DJNZ also B): to nn, to HL or an index register, or by the signed offset from the
address after the instruction, when the condition holds (for DJNZ: when B − 1 ≠ 0), with the taken extension of 5
for the relative ones. Constructors jpNn, jpCcNn, jpHl, jpXy, jr, jrCc, djnz. -/
def Obligations.Jumps : Prop :=
  ∀ s : State,
    let jumped (u : Cpu) (a : Word) : Cpu := { u with pc := a }
    (∀ nn, Runs (.jpNn nn) s (jumped s.cpu nn) [] 10) ∧
    (∀ cc nn, Runs (.jpCcNn cc nn) s (if holds cc s.cpu then jumped s.cpu nn else s.cpu) [] 10) ∧
    Runs .jpHl s (jumped s.cpu s.cpu.hl) [] 4 ∧
    (∀ x, Runs (.jpXy x) s (jumped s.cpu (s.cpu.xy x)) [] 8) ∧
    (∀ e : Byte, Runs (.jr e) s (jumped s.cpu (s.cpu.pc + e.signExtend 16)) [] 12) ∧
    (∀ (cc : Cond) (e : Byte), Runs (.jrCc cc e) s
      (if holds cc s.cpu then jumped s.cpu (s.cpu.pc + e.signExtend 16) else s.cpu) []
      (if holds cc s.cpu then 12 else 7)) ∧
    (∀ e : Byte,
      let u : Cpu := { s.cpu with b := s.cpu.b - 1 }
      Runs (.djnz e) s (if s.cpu.b = 1 then u else jumped u (s.cpu.pc + e.signExtend 16)) []
        (if s.cpu.b = 1 then 8 else 13))

/-- The calls push the address of the byte after the instruction, high byte first, and jump; a call whose condition
does not hold does neither and costs 7 less; RST p jumps to 8 × p. Constructors callNn, callCcNn, rstP. -/
def Obligations.Calls : Prop :=
  ∀ s : State,
    let called (a : Word) : Cpu := { s.cpu with sp := s.cpu.sp - 2, pc := a }
    (∀ nn, Runs (.callNn nn) s (called nn) (pushes s.cpu.sp s.cpu.pc) 17) ∧
    (∀ cc nn, holds cc s.cpu = true → Runs (.callCcNn cc nn) s (called nn) (pushes s.cpu.sp s.cpu.pc) 17) ∧
    (∀ cc nn, holds cc s.cpu = false → Runs (.callCcNn cc nn) s s.cpu [] 10) ∧
    (∀ p : BitVec 3, Runs (.rstP p) s (called (BitVec.ofNat 16 (8 * p.toNat))) (pushes s.cpu.sp s.cpu.pc) 11)

/-- The returns pop PC; a return whose condition does not hold does nothing and costs 6 less; RETI and RETN also copy
IFF2 to IFF1 and change nothing else. Constructors ret, retCc, reti, retn. -/
def Obligations.Returns : Prop :=
  ∀ s : State,
    let back : Cpu := { s.cpu with sp := s.cpu.sp + 2, pc := wordAt s s.cpu.sp }
    Runs .ret s back (rd16 s s.cpu.sp) 10 ∧
    (∀ cc, holds cc s.cpu = true → Runs (.retCc cc) s back (rd16 s s.cpu.sp) 11) ∧
    (∀ cc, holds cc s.cpu = false → Runs (.retCc cc) s s.cpu [] 5) ∧
    Runs .reti s { back with iff1 := s.cpu.iff2 } (rd16 s s.cpu.sp) 14 ∧
    Runs .retn s { back with iff1 := s.cpu.iff2 } (rd16 s s.cpu.sp) 14

-- Input and output

/-- The single port transfers: the port of IN A,(n) and OUT (n),A has the high byte 0x00 or A, as the parameter says,
that of the (C) forms is BC; IN A,(n) and the OUTs change no flag, IN r,(C) sets S, Z, 5, 3 and PV (parity) from the
byte, clears H and N and keeps C. Memory stays. Constructors inAMn, inRMc, outMnA, outMcR. The byte the host answers
is the next scripted one, or free. -/
def Obligations.PortTransfers : Prop :=
  ∀ s : State,
    let port (n : Byte) : Word :=
      match s.params.portHighImm with
      | .zero => wordOf 0x00 n
      | .a => wordOf s.cpu.a n
    let flg (v : Byte) : Flags :=
      { s := v.getLsbD 7, z := v == 0, f5 := v.getLsbD 5, h := false, f3 := v.getLsbD 3, pv := parity v,
        n := false, c := s.cpu.f.getLsbD 0 }
    let inA (n v : Byte) := RunsTo (.inAMn n) s { s.cpu with a := v } [.portRead (port n) v] 11
    let inR (r : R8) (v : Byte) :=
      RunsTo (.inRMc r) s (withF (withR8 s.cpu r v) (flg v)) [.portRead s.cpu.bc v] 12
    (∀ v rest, s.portIn = v :: rest → (∀ n, inA n v s.draws rest) ∧ (∀ r, inR r v s.draws rest)) ∧
    (s.portIn = [] → (∀ n, ∃ v, inA n v (s.draws + 1) []) ∧ (∀ r, ∃ v, inR r v (s.draws + 1) [])) ∧
    (∀ n, Runs (.outMnA n) s s.cpu [.portWrite (port n) s.cpu.a] 11) ∧
    (∀ r, Runs (.outMcR r) s s.cpu [.portWrite s.cpu.bc (s.cpu.r8 r)] 12)

/-- One block input: the port BC, with B before the decrement, is read once, the byte is stored at HL, HL steps, B
counts down; PV is B ≠ 0, Z is B = 0, and the other six flags are free: the bits of one draw. The repeating forms go
back to their ED prefix at 21 cycles while B ≠ 0. Constructors ini, ind, inir, indr. Said for a scripted answer; the
same with a free one when the script is empty. -/
def Obligations.BlockInput : Prop :=
  ∀ s : State,
    let moved (step : Word) (k : Byte) : Cpu :=
      withF { withRp s.cpu .hl (s.cpu.hl + step) with b := s.cpu.b - 1 }
        { s := k.getLsbD 7, z := s.cpu.b == 1, f5 := k.getLsbD 5, h := k.getLsbD 4, f3 := k.getLsbD 3,
          pv := s.cpu.b != 1, n := k.getLsbD 1, c := k.getLsbD 0 }
    let again (u : Cpu) : Cpu := if s.cpu.b = 1 then u else { u with pc := u.pc - 2 }
    let cost := if s.cpu.b = 1 then 16 else 21
    let runs (v : Byte) (draws : Nat) (rest : List Byte) : Prop :=
      let accesses := [.portRead s.cpu.bc v, .memWrite s.cpu.hl v]
      ∃ k, RunsTo .ini s (moved 1 k) accesses 16 draws rest ∧
        RunsTo .ind s (moved (-1) k) accesses 16 draws rest ∧
        RunsTo .inir s (again (moved 1 k)) accesses cost draws rest ∧
        RunsTo .indr s (again (moved (-1) k)) accesses cost draws rest
    (∀ v rest, s.portIn = v :: rest → runs v (s.draws + 1) rest) ∧
    (s.portIn = [] → ∃ v, runs v (s.draws + 2) [])

/-- One block output: the byte at HL is read, B counts down, the byte is written to the port BC with B after the
decrement, HL steps; flags and repetition as for the block input; no byte of memory changes. Constructors outi, outd,
otir, otdr. -/
def Obligations.BlockOutput : Prop :=
  ∀ s : State,
    let v := answer s s.cpu.hl
    let moved (step : Word) (k : Byte) : Cpu :=
      withF { withRp s.cpu .hl (s.cpu.hl + step) with b := s.cpu.b - 1 }
        { s := k.getLsbD 7, z := s.cpu.b == 1, f5 := k.getLsbD 5, h := k.getLsbD 4, f3 := k.getLsbD 3,
          pv := s.cpu.b != 1, n := k.getLsbD 1, c := k.getLsbD 0 }
    let again (u : Cpu) : Cpu := if s.cpu.b = 1 then u else { u with pc := u.pc - 2 }
    let cost := if s.cpu.b = 1 then 16 else 21
    let accesses := [rd s s.cpu.hl, .portWrite (wordOf (s.cpu.b - 1) s.cpu.c) v]
    ∃ k, RunsTo .outi s (moved 1 k) accesses 16 (s.draws + 1) s.portIn ∧
      RunsTo .outd s (moved (-1) k) accesses 16 (s.draws + 1) s.portIn ∧
      RunsTo .otir s (again (moved 1 k)) accesses cost (s.draws + 1) s.portIn ∧
      RunsTo .otdr s (again (moved (-1) k)) accesses cost (s.draws + 1) s.portIn

-- The ALU in integers

/-- Addition and subtraction with carry in the integers (R201, R202): result modulo 256 and all eight flags. That an
addition copies bits 5 and 3 of its result, where the example of R460 says otherwise, is the model's choice (log
entry 20). -/
def Obligations.AddAndSubtractInIntegers : Prop :=
  ∀ (a b : Byte) (c : Bool),
    let t : Int := (a.toNat : Int) + b.toNat + c.toNat
    let d : Int := (a.toNat : Int) - b.toNat - c.toNat
    let add := add8 a b c
    let sub := sub8 a b c
    ((add.1.toNat : Int) = t % 256 ∧ (add.2.s = true ↔ 128 ≤ t % 256) ∧ (add.2.z = true ↔ t % 256 = 0) ∧
      (add.2.f5 = true ↔ t / 32 % 2 = 1) ∧ (add.2.h = true ↔ 15 < a.toNat % 16 + b.toNat % 16 + c.toNat) ∧
      (add.2.f3 = true ↔ t / 8 % 2 = 1) ∧
      (add.2.pv = true ↔ (128 ≤ a.toNat ↔ 128 ≤ b.toNat) ∧ ¬(128 ≤ t % 256 ↔ 128 ≤ a.toNat)) ∧
      add.2.n = false ∧ (add.2.c = true ↔ 255 < t)) ∧
    ((sub.1.toNat : Int) = d % 256 ∧ (sub.2.s = true ↔ 128 ≤ d % 256) ∧ (sub.2.z = true ↔ d % 256 = 0) ∧
      (sub.2.f5 = true ↔ d / 32 % 2 = 1) ∧ (sub.2.h = true ↔ a.toNat % 16 < b.toNat % 16 + c.toNat) ∧
      (sub.2.f3 = true ↔ d / 8 % 2 = 1) ∧
      (sub.2.pv = true ↔ ¬(128 ≤ a.toNat ↔ 128 ≤ b.toNat) ∧ ¬(128 ≤ d % 256 ↔ 128 ≤ a.toNat)) ∧
      sub.2.n = true ∧ (sub.2.c = true ↔ d < 0))

/-- Subtraction is addition of the complement with the carries inverted (R203), and PV says that the exact signed
result does not fit in a byte (R222). The spec derives both from R201 and R202. -/
def Obligations.SubtractIsComplementAdd : Prop :=
  ∀ (a b : Byte) (c : Bool),
    sub8 a b c =
      ((add8 a (~~~b) (!c)).1,
        { (add8 a (~~~b) (!c)).2 with
          h := !(add8 a (~~~b) (!c)).2.h, n := true, c := !(add8 a (~~~b) (!c)).2.c }) ∧
    ((add8 a b c).2.pv = true ↔ a.toInt + b.toInt + c.toNat < -128 ∨ 127 < a.toInt + b.toInt + c.toNat) ∧
    ((sub8 a b c).2.pv = true ↔ a.toInt - b.toInt - c.toNat < -128 ∨ 127 < a.toInt - b.toInt - c.toNat)

/-- Compare keeps the flags of the subtraction with 5 and 3 from the operand, and A (R204); increment sets PV exactly at 0x7F,
H exactly at a low nibble of 15, and never touches carry (R205). -/
def Obligations.CompareAndIncrementFlags : Prop :=
  (∀ (a b : Byte) (g : Flags),
    cp8 a b = { (sub8 a b false).2 with f5 := b.getLsbD 5, f3 := b.getLsbD 3 } ∧ alu8 .cp a b g = (a, cp8 a b)) ∧
  (∀ (a : Byte) (g : Flags),
    let r := inc8 a g
    r.1.toNat = (a.toNat + 1) % 256 ∧ (r.2.s = true ↔ 128 ≤ (a.toNat + 1) % 256) ∧
      (r.2.z = true ↔ a.toNat = 255) ∧ (r.2.f5 = true ↔ (a.toNat + 1) / 32 % 2 = 1) ∧
      (r.2.h = true ↔ a.toNat % 16 = 15) ∧ (r.2.f3 = true ↔ (a.toNat + 1) / 8 % 2 = 1) ∧
      (r.2.pv = true ↔ a.toNat = 127) ∧ r.2.n = false ∧ r.2.c = g.c)

/-- Logic, decrement and parity (R200, R206 to R209): AND sets H, XOR and OR clear it, all three clear N and C and
set PV to even parity of the result, which adding one bit flips; what `alu8` selects for each of the eight
operations. -/
def Obligations.LogicAndDecrementFlags : Prop :=
  (∀ (a v : Byte) (g : Flags),
    alu8 .add a v g = add8 a v false ∧ alu8 .adc a v g = add8 a v g.c ∧ alu8 .sub a v g = sub8 a v false ∧
    alu8 .sbc a v g = sub8 a v g.c ∧ alu8 .cp a v g = (a, cp8 a v) ∧
    ∀ op r, (op, r) ∈ [(AluOp.and, a &&& v), (.xor, a ^^^ v), (.or, a ||| v)] →
      alu8 op a v g =
        (r, { s := r.getLsbD 7, z := r == 0, f5 := r.getLsbD 5, h := op == .and, f3 := r.getLsbD 3,
              pv := parity r, n := false, c := false })) ∧
  (∀ (a : Byte) (g : Flags),
    let r := dec8 a g
    r.1.toNat = (a.toNat + 255) % 256 ∧ (r.2.s = true ↔ 128 ≤ (a.toNat + 255) % 256) ∧
      (r.2.z = true ↔ a.toNat = 1) ∧ (r.2.f5 = true ↔ (a.toNat + 255) / 32 % 2 = 1) ∧
      (r.2.h = true ↔ a.toNat % 16 = 0) ∧ (r.2.f3 = true ↔ (a.toNat + 255) / 8 % 2 = 1) ∧
      (r.2.pv = true ↔ a.toNat = 128) ∧ r.2.n = true ∧ r.2.c = g.c) ∧
  (parity 0 = true ∧ ∀ (v : Byte) (k : Nat), k < 8 → parity (v ^^^ ((1 : Byte) <<< k)) = !parity v)

/-- 16-bit addition without carry (R210): the sum modulo 65,536, H the carry out of bit 11, C the carry out of bit 15,
5 and 3 bits 13 and 11 of the result, N clear, S, Z and PV as they were. -/
def Obligations.WordAddClosedForm : Prop :=
  ∀ (x y : Word) (g : Flags),
    let t := x.toNat + y.toNat
    let r := add16 x y g
    r.1.toNat = t % 65536 ∧ (r.2.h = true ↔ 0x0FFF < x.toNat % 4096 + y.toNat % 4096) ∧
      (r.2.c = true ↔ 0xFFFF < t) ∧ (r.2.f5 = true ↔ t / 8192 % 2 = 1) ∧ (r.2.f3 = true ↔ t / 2048 % 2 = 1) ∧
      r.2.n = false ∧ r.2.s = g.s ∧ r.2.z = g.z ∧ r.2.pv = g.pv

/-- 16-bit addition and subtraction with carry in the integers (R211, R212): the result modulo 65,536, S, 5 and 3 from
it, Z across all 16 bits, H and C the carry or borrow at bits 11 and 15, PV signed overflow, N the operation. -/
def Obligations.WordCarryInIntegers : Prop :=
  ∀ (x y : Word) (c : Bool),
    let t : Int := (x.toNat : Int) + y.toNat + c.toNat
    let d : Int := (x.toNat : Int) - y.toNat - c.toNat
    let add := adc16 x y c
    let sub := sbc16 x y c
    ((add.1.toNat : Int) = t % 65536 ∧ (add.2.s = true ↔ 32768 ≤ t % 65536) ∧ (add.2.z = true ↔ t % 65536 = 0) ∧
      (add.2.f5 = true ↔ t / 8192 % 2 = 1) ∧ (add.2.f3 = true ↔ t / 2048 % 2 = 1) ∧
      (add.2.h = true ↔ 4095 < x.toNat % 4096 + y.toNat % 4096 + c.toNat) ∧
      (add.2.pv = true ↔ x.toInt + y.toInt + c.toNat < -32768 ∨ 32767 < x.toInt + y.toInt + c.toNat) ∧
      add.2.n = false ∧ (add.2.c = true ↔ 65535 < t)) ∧
    ((sub.1.toNat : Int) = d % 65536 ∧ (sub.2.s = true ↔ 32768 ≤ d % 65536) ∧ (sub.2.z = true ↔ d % 65536 = 0) ∧
      (sub.2.f5 = true ↔ d / 8192 % 2 = 1) ∧ (sub.2.f3 = true ↔ d / 2048 % 2 = 1) ∧
      (sub.2.h = true ↔ x.toNat % 4096 < y.toNat % 4096 + c.toNat) ∧
      (sub.2.pv = true ↔ x.toInt - y.toInt - c.toNat < -32768 ∨ 32767 < x.toInt - y.toInt - c.toNat) ∧
      sub.2.n = true ∧ (sub.2.c = true ↔ d < 0))

/-- DAA for every A and F (R213): 0x06 for the low digit and 0x60 for the high one are added, or after a subtraction
subtracted; all eight flags, N kept and a set carry staying set. So it makes ADD, ADC, SUB and SBC decimal: for bytes
that hold two decimal digits, DAA after the binary operation leaves the decimal sum or difference modulo 100 in two
digits, and C says that it left the range 0 to 99. -/
def Obligations.DaaMakesArithmeticDecimal : Prop :=
  (∀ (a : Byte) (g : Flags),
    let low : Int := if g.h = true ∨ 9 < a.toNat % 16 then 0x06 else 0
    let high : Int := if g.c = true ∨ 0x99 < a.toNat then 0x60 else 0
    let r : Int := (if g.n = true then a.toNat - (low + high) else a.toNat + (low + high)) % 256
    let out := daa a g
    (out.1.toNat : Int) = r ∧ (out.2.s = true ↔ 128 ≤ r) ∧ (out.2.z = true ↔ r = 0) ∧
      (out.2.f5 = true ↔ r / 32 % 2 = 1) ∧ (out.2.h = true ↔ r / 16 % 2 ≠ a.toNat / 16 % 2) ∧
      (out.2.f3 = true ↔ r / 8 % 2 = 1) ∧ out.2.pv = parity out.1 ∧ out.2.n = g.n ∧
      (out.2.c = true ↔ g.c = true ∨ 0x99 < a.toNat)) ∧
  ∀ (m n : Fin 100) (c : Bool),
    let bcd (k : Nat) : Byte := BitVec.ofNat 8 (k / 10 * 16 + k % 10)
    let add := add8 (bcd m) (bcd n) c
    let sub := sub8 (bcd m) (bcd n) c
    (daa add.1 add.2).1 = bcd ((m.val + n.val + c.toNat) % 100) ∧
    ((daa add.1 add.2).2.c = true ↔ 100 ≤ m.val + n.val + c.toNat) ∧
    (daa sub.1 sub.2).1 = bcd ((m.val + 200 - n.val - c.toNat) % 100) ∧
    ((daa sub.1 sub.2).2.c = true ↔ m.val < n.val + c.toNat)

/-- The eight rotates and shifts in numbers (R214): each result, and the bit shifted out as the new carry. -/
def Obligations.RotatesInNumbers : Prop :=
  ∀ (v : Byte) (cin : Bool),
    let n := v.toNat
    let shifted (op : RotOp) (r : Nat) (out : Bool) : Prop :=
      (rot8 op v cin).1.toNat = r ∧ (rot8 op v cin).2 = out
    let top := decide (128 ≤ n)
    let bottom := decide (n % 2 = 1)
    shifted .rlc (2 * n % 256 + n / 128) top ∧ shifted .rrc (n / 2 + 128 * (n % 2)) bottom ∧
    shifted .rl (2 * n % 256 + cin.toNat) top ∧ shifted .rr (n / 2 + 128 * cin.toNat) bottom ∧
    shifted .sla (2 * n % 256) top ∧ shifted .sra (n / 2 + 128 * (n / 128)) bottom ∧
    shifted .sll (2 * n % 256 + 1) top ∧ shifted .srl (n / 2) bottom

-- The step

/-- A step runs the decoded instruction: when no mark stands, the core is not halted and the trap hook does not handle
the instruction, and the bytes the host answers to the fetches decode to `i` (not the fallback row), the step is
`exec i` on the state after the fetch (each byte read once in order, the first one not again after the hook, PC past
them, R advanced once, or twice behind a prefix), and then the countdown and the cycles. For a Step() of the script and
one of a host without a script. -/
def Obligations.StepRunsDecodedInstruction : Prop :=
  ∀ (s : State) (rest : List HostCall) (act : HostAction) (hook : Option (List HookAnswer)) (asked : List BusAccess)
    (i : Instr),
    Dispatches s rest act hook asked →
    let op := answer s s.cpu.pc
    let first := begun s rest act hook asked
    decode (op :: answers (i.length - 1) first) = .ok (i, []) → isFallback i = false →
    step s = thenEnd (exec i (fetched op 0 (i.length - 1) first)) ended

/-- DD and FD prefixes before a byte without an indexed form. The row by itself (constructor xyFallback) charges 4,
records its prefix and leaves its byte to be executed, and changes nothing else. A step that meets one or more such
prefixes, the last one before `op`, executes the instruction that begins with `op` as an unprefixed one in the same
step, at 4 cycles and one R more for each prefix, with the prefixes kept for an IllegalOpcode record. Where `op` is a
prefix of an indexed form itself, that last prefix governs. -/
def Obligations.FallbackRunsUnprefixed : Prop :=
  (∀ (x : Xy) (op : Byte) (s : State),
    exec (.xyFallback x op) s =
      .next { s with delta := s.delta + 4, chain := s.chain ++ [x.prefixByte], pending := some op }) ∧
  (∀ (s : State) (rest : List HostCall) (act : HostAction) (hook : Option (List HookAnswer)) (asked : List BusAccess)
    (prefixes : List Xy) (op : Byte) (more : List Byte) (i : Instr),
    Dispatches s rest act hook asked → prefixes ≠ [] → op ∈ fallbackOpcodes →
    decode (op :: more) = .ok (i, []) → isFallback i = false →
    let first := begun s rest act hook asked
    answer s s.cpu.pc :: answers (prefixes.length + more.length) first =
      prefixes.map Xy.prefixByte ++ op :: more →
    step s =
      thenEnd
        (exec i
          { fetched op prefixes.length more.length first with
            delta := 4 * prefixes.length, chain := prefixes.map Xy.prefixByte })
        ended)

/-- The step never returns exactly when every byte the host answers to its fetches, without end, is a DD or FD prefix:
every finite prefix chain ends in an instruction, and an endless one is a hang. For plain memory without a hook: when
every byte of memory is such a prefix. -/
def Obligations.HangsExactlyOnEndlessPrefixes : Prop :=
  ∀ (s : State) (rest : List HostCall) (act : HostAction) (hook : Option (List HookAnswer)) (asked : List BusAccess),
    Dispatches s rest act hook asked →
    (step s = .fault .hang ↔
      ∀ n, ∀ b ∈ answer s s.cpu.pc :: answers n (begun s rest act hook asked), b = 0xDD ∨ b = 0xFD) ∧
    (s.memHost = [] → s.hook = none →
      (step s = .fault .hang ↔ ∀ a : Word, s.byteAt a = 0xDD ∨ s.byteAt a = 0xFD))

/-- A halted step changes R by one and costs 4; PC stays, memory is not accessed and the hook is not consulted; the
countdown runs. -/
def Obligations.HaltedStep : Prop :=
  ∀ (s : State) (rest : List HostCall),
    StepNext s rest → s.faultMark = none → s.refusedMark = none → s.cpu.halted = true →
    step s =
      .next
        { fresh s rest with
          cpu := { counted s.cpu with r := refreshed s.cpu.r 1, cycles := s.cpu.cycles + 4 },
          delta := 4 }

/-- A step the trap hook handles reads the byte at PC and consults the hook with it; the core fetches, executes and
charges nothing; what the host did stands, and the countdown runs. (A hook that does not handle the instruction:
StepRunsDecodedInstruction.) -/
def Obligations.HandledStep : Prop :=
  ∀ (s : State) (rest : List HostCall) (act : HostAction) (later : List HookAnswer),
    StepNext s rest → s.faultMark = none → s.refusedMark = none → s.cpu.halted = false →
    s.hook = some ({ handled := true, act := act } :: later) →
    ∃ t, step s = .next t ∧ t.cpu = counted (act.cpu.getD s.cpu) ∧ t.delta = 0 ∧ t.hook = some later ∧
      t.bus = [.trapHook s.cpu.pc (answer s s.cpu.pc) true, rd s s.cpu.pc] ∧
      t.mem = storesMade act.stores (afterRead s s.cpu.pc).mem ∧ t.memHost = s.memHost.tail ∧
      t.faultMark = none ∧ t.refusedMark = none ∧ t.params = s.params ∧ t.calls = rest ∧ t.portIn = s.portIn ∧
      t.draws = s.draws

-- Interrupts

/-- A request made while the EI delay runs or IFF1 is 0 is dropped: no state changes, nothing is accessed, and it
costs nothing. -/
def Obligations.IgnoredRequests : Prop :=
  ∀ (s : State) (data : Byte) (rest : List HostCall),
    s.faultMark = none → s.refusedMark = none → s.calls = .interrupt data :: rest →
    (s.cpu.eiDelay ≠ 0 ∨ s.cpu.iff1 = false) →
    step s = .next (fresh s rest)

/-- An accepted request clears IFF1, IFF2 as the parameter says, and the halted bit, and pushes PC. Mode 1 goes to
0x0038 at 13 cycles. Mode 2 goes to the word at I:data with its low bit cleared, read after the push, at 19 cycles. R
and all else stay, and the countdown does not run. -/
def Obligations.AcceptedModes1And2 : Prop :=
  ∀ (s : State) (data : Byte) (rest : List HostCall),
    s.faultMark = none → s.refusedMark = none → s.calls = .interrupt data :: rest →
    s.cpu.eiDelay = 0 → s.cpu.iff1 = true →
    let pushed := pushes s.cpu.sp s.cpu.pc
    let entry : Word := wordOf s.cpu.i data &&& 0xFFFE
    let lo := answerAfter s pushed entry
    let read := pushed ++ [rdAfter s pushed entry]
    let hi := answerAfter s read (entry + 1)
    let taken (target : Word) (cost : Nat) : Cpu :=
      { s.cpu with
        iff1 := false, iff2 := if s.params.intAckClearsIff2 = true then false else s.cpu.iff2, halted := false,
        sp := s.cpu.sp - 2, pc := target, cycles := s.cpu.cycles + cost }
    let effect (target : Word) (cost : Nat) (accesses : List BusAccess) : Prop :=
      ∃ t, step s = .next t ∧ t.cpu = taken target cost ∧ t.delta = cost ∧ t.bus = accesses.reverse ∧
        (∀ a, t.byteAt a = holdsAfter s accesses a) ∧
        (s.memHost = [] → ∀ a, t.byteAt a = plainAfter accesses a (s.byteAt a)) ∧
        t.memHost = hostAfter s.memHost accesses ∧ t.calls = rest ∧ t.faultMark = none ∧
        t.refusedMark = none ∧ t.params = s.params ∧ t.hook = s.hook ∧ t.portIn = s.portIn ∧ t.draws = s.draws
    (s.cpu.im = .mode1 → effect 0x0038 13 pushed) ∧
    (s.cpu.im = .mode2 → effect (wordOf hi lo) 19 (read ++ [rdAfter s read (entry + 1)]))

/-- An accepted request in mode 0: a data byte that is a one-byte opcode and no prefix is executed where PC stands, R
one further, at 11 cycles more than its own, without the countdown; any other data byte is refused: the mark is set,
and the processor record and memory stay, with no access. -/
def Obligations.AcceptedMode0 : Prop :=
  ∀ (s : State) (data : Byte) (rest : List HostCall),
    s.faultMark = none → s.refusedMark = none → s.calls = .interrupt data :: rest →
    s.cpu.eiDelay = 0 → s.cpu.iff1 = true → s.cpu.im = .mode0 →
    let opened : State :=
      { fresh s rest with
        delta := 11
        cpu :=
          { s.cpu with
            iff1 := false, iff2 := if s.params.intAckClearsIff2 = true then false else s.cpu.iff2,
            halted := false, r := refreshed s.cpu.r 1 } }
    (∀ i, decodeBytes data 0 0 0 = (i, 1) →
      step s =
        thenEnd (exec i opened) (fun t => { t with cpu := { t.cpu with cycles := t.cpu.cycles + t.delta } })) ∧
    ((decodeBytes data 0 0 0).2 ≠ 1 →
      step s = .next { fresh s rest with refusedMark := some (.mode0DataNotAdmitted data) })

/-- EI takes effect one instruction late: from a state with interrupts disabled in mode 1, after EI and NOP with a
request after each, the first request is dropped and the second one is accepted: the address after the NOP is pushed.
The host answers 0xFB and 0x00 to the two fetches. -/
def Obligations.EnableTakesEffectLate : Prop :=
  ∀ (s : State) (d d' : Byte),
    s.faultMark = none → s.refusedMark = none → s.hook = none → s.cpu.halted = false → s.cpu.eiDelay = 0 →
    s.cpu.iff1 = false → s.cpu.im = .mode1 → answer s s.cpu.pc = 0xFB →
    answerAfter s [rd s s.cpu.pc] (s.cpu.pc + 1) = 0x00 →
    s.calls = [.step, .interrupt d, .step, .interrupt d'] →
    ∃ t, core.run 4 s = .next t ∧ t.cpu.pc = 0x0038 ∧ t.cpu.sp = s.cpu.sp - 2 ∧
      t.bus = (pushes s.cpu.sp (s.cpu.pc + 2)).reverse ∧ t.cpu.iff1 = false ∧ t.cpu.cycles = s.cpu.cycles + 21

-- Marks, reset, invariants

/-- While a mark stands, every step and interrupt call answers the recorded outcome, and a reset call clears it. -/
def Obligations.MarksAreSticky : Prop :=
  ∀ (s : State) (rest : List HostCall),
    (s.calls = [] ∨ s.calls = .step :: rest ∨ (∃ data, s.calls = .interrupt data :: rest) →
      (∀ r, s.faultMark = some r → step s = .fault (.illegalOpcode r)) ∧
      (∀ r, s.faultMark = none → s.refusedMark = some r → step s = .refused r)) ∧
    (s.calls = .reset :: rest →
      ∃ t, step s = .next t ∧ t.cpu = Cpu.reset ∧ t.faultMark = none ∧ t.refusedMark = none ∧ t.mem = s.mem ∧
        t.params = s.params ∧ t.bus = [] ∧ t.calls = rest)

/-- The state after reset, field by field, and the reset operation, which leaves that state whatever the state before
was, and does not touch memory or ports (R51). -/
def Obligations.ResetValues : Prop :=
  let u := State.reset.cpu
  u.a = 0xFF ∧ u.f = 0x00 ∧ u.b = 0x00 ∧ u.c = 0x00 ∧ u.d = 0x00 ∧ u.e = 0x00 ∧ u.h = 0x00 ∧ u.l = 0x00 ∧
  u.afShadow = 0x0000 ∧ u.bcShadow = 0x0000 ∧ u.deShadow = 0x0000 ∧ u.hlShadow = 0x0000 ∧ u.ix = 0x0000 ∧
  u.iy = 0x0000 ∧ u.sp = 0xFFFF ∧ u.pc = 0x0000 ∧ u.i = 0x00 ∧ u.r = 0x00 ∧ u.iff1 = false ∧ u.iff2 = false ∧
  u.im = .mode0 ∧ u.eiDelay = 0 ∧ u.halted = false ∧ u.cycles = 0 ∧
  State.reset.faultMark = none ∧ State.reset.refusedMark = none ∧
  ∀ (s : State) (rest : List HostCall), s.calls = .reset :: rest →
    ∃ t, step s = .next t ∧ t.cpu = u ∧ t.faultMark = none ∧ t.refusedMark = none ∧ t.mem = s.mem ∧ t.bus = [] ∧
      t.portIn = s.portIn

/-- Every step keeps the memory in its canonical form: addresses strictly rising and below 65,536, no entry that an
unlisted address would read as; so equal memories are equal data. -/
def Obligations.MemoryStaysCanonical : Prop :=
  ∀ s t : State, s.mem.wf = true → step s = .next t → t.mem.wf = true

/-- Every step keeps "IFF1 implies IFF2" for a host that writes no processor record: no instruction, interrupt, delay
or reset leaves interrupts enabled with the shadow flip-flop clear. -/
def Obligations.FlipFlopsStayOrdered : Prop :=
  ∀ s t : State, (s.cpu.iff1 = true → s.cpu.iff2 = true) → s.hostKeepsCpu = true → step s = .next t →
    (t.cpu.iff1 = true → t.cpu.iff2 = true) ∧ t.hostKeepsCpu = true

/-- The invariants of the two statements before this one hold after reset. -/
def Obligations.ResetMeetsInvariants : Prop :=
  State.reset.mem.wf = true ∧ (State.reset.cpu.iff1 = true → State.reset.cpu.iff2 = true) ∧
    State.reset.hostKeepsCpu = true

/-- The cycle counter grows by exactly the delta every call returns, a reset apart, for a host that writes no processor
record: it never decreases. -/
def Obligations.CyclesAreAccounted : Prop :=
  ∀ s t : State, s.hostKeepsCpu = true → s.calls.head? ≠ some .reset → step s = .next t →
    t.cpu.cycles = s.cpu.cycles + t.delta

/-- Which instructions change the special registers, whatever the operands: I only LD I,A; R only LD R,A; IM only IM;
Halted only HALT; EiDelay only EI and DI; IFF1 only DI, RETI and RETN; IFF2 only DI; the shadow pairs only EX AF,AF'
and EXX; Cycles, the parameters, the marks, the host's coming calls and its coming hook answers none (its prepared
answers of memory and ports are used up by the accesses that read them). The illegal rows, which take the record of
before the step, are apart. -/
def Obligations.SpecialRegistersChangeOnlyByTheirWriters : Prop :=
  ∀ (i : Instr) (s t : State), isIllegal i = false → exec i s = .next t →
    (i ≠ .ldIA → t.cpu.i = s.cpu.i) ∧ (i ≠ .ldRA → t.cpu.r = s.cpu.r) ∧
    (i ∉ [Instr.im0, .im1, .im2] → t.cpu.im = s.cpu.im) ∧ (i ≠ .halt → t.cpu.halted = s.cpu.halted) ∧
    (i ∉ [Instr.ei, .di] → t.cpu.eiDelay = s.cpu.eiDelay) ∧
    (i ∉ [Instr.di, .reti, .retn] → t.cpu.iff1 = s.cpu.iff1) ∧ (i ≠ .di → t.cpu.iff2 = s.cpu.iff2) ∧
    (i ≠ .exAfAf → t.cpu.afShadow = s.cpu.afShadow) ∧
    (i ≠ .exx → t.cpu.bcShadow = s.cpu.bcShadow ∧ t.cpu.deShadow = s.cpu.deShadow ∧
      t.cpu.hlShadow = s.cpu.hlShadow) ∧
    t.cpu.cycles = s.cpu.cycles ∧ t.params = s.params ∧ t.faultMark = s.faultMark ∧
    t.refusedMark = s.refusedMark ∧ t.calls = s.calls ∧ t.hook = s.hook
end

