-- ==== Sys2Proof/Laws/Memory.lean ====
section
/-! SUPPORT. Memory: read after write, and the canonical form that every operation keeps. -/

namespace Sys2Proof.Machine.Memory

theorem read_erase_same (m : Memory) (a : Nat) : (m.erase a).read a = unlisted := by
  induction m with
  | nil => rfl
  | cons x m ih =>
    obtain ⟨b, w⟩ := x
    by_cases h : b = a <;> simp_all [erase, read]

theorem read_erase_other (m : Memory) {a b : Nat} (h : b ≠ a) : (m.erase a).read b = m.read b := by
  induction m with
  | nil => rfl
  | cons x m ih =>
    obtain ⟨c, w⟩ := x
    by_cases hc : c = a
    · have : c ≠ b := fun e => h (e.symm.trans hc)
      simp_all [erase, read]
    · simp_all [erase, read]

theorem read_insert_same (m : Memory) (a : Nat) (v : Byte) (h : ∀ x ∈ m, x.1 ≠ a) :
    (insert a v m).read a = v := by
  induction m with
  | nil => simp [insert, read]
  | cons x m ih =>
    obtain ⟨b, w⟩ := x
    by_cases hb : a < b
    · simp [insert, read, hb]
    · have : b ≠ a := h (b, w) (by simp)
      simp [insert, read, hb, this, ih fun x hx => h x (by simp [hx])]

theorem read_insert_other (m : Memory) {a b : Nat} (v : Byte) (h : b ≠ a) :
    (insert a v m).read b = m.read b := by
  induction m with
  | nil => simp [insert, read, h.symm]
  | cons x m ih =>
    obtain ⟨c, w⟩ := x
    by_cases hc : a < c <;> simp [insert, read, hc, h.symm, ih]

theorem erase_ne (m : Memory) (a : Nat) : ∀ x ∈ m.erase a, x.1 ≠ a := by
  intro x hx
  simpa [erase] using (List.mem_filter.mp hx).2

/-- A byte stored is read back. -/
@[simp] theorem read_write_same (m : Memory) (a : Nat) (v : Byte) : (m.write a v).read a = v := by
  unfold write
  split
  · next h => rw [read_erase_same, h]
  · exact read_insert_same _ _ _ (erase_ne m a)

/-- A store leaves every other byte. -/
theorem read_write_other (m : Memory) {a b : Nat} (v : Byte) (h : b ≠ a) : (m.write a v).read b = m.read b := by
  unfold write
  split
  · exact read_erase_other m h
  · rw [read_insert_other _ _ h, read_erase_other m h]

theorem read_write (m : Memory) (a b : Nat) (v : Byte) :
    (m.write a v).read b = if b = a then v else m.read b := by
  split
  · next h => rw [h, read_write_same]
  · next h => exact read_write_other m v h

theorem mem_insert (m : Memory) (a : Nat) (v : Byte) (x : Host.Cell) :
    x ∈ insert a v m ↔ x = (a, v) ∨ x ∈ m := by
  induction m with
  | nil => simp [insert]
  | cons y m ih =>
    obtain ⟨b, w⟩ := y
    by_cases hb : a < b
    · simp [insert, hb]
    · simp [insert, hb, ih]; tauto

theorem pairwise_insert (m : Memory) (a : Nat) (v : Byte) (hs : m.Pairwise (fun x y => x.1 < y.1))
    (ha : ∀ x ∈ m, x.1 ≠ a) : (insert a v m).Pairwise (fun x y => x.1 < y.1) := by
  induction m with
  | nil => simp [insert]
  | cons y m ih =>
    obtain ⟨b, w⟩ := y
    obtain ⟨h1, h2⟩ := List.pairwise_cons.mp hs
    by_cases hb : a < b
    · simp only [insert, hb, if_true]
      refine List.pairwise_cons.mpr ⟨fun z hz => ?_, hs⟩
      rcases List.mem_cons.mp hz with rfl | hz
      · exact hb
      · exact Nat.lt_trans hb (h1 z hz)
    · simp only [insert, hb, if_false]
      have hne : b ≠ a := ha (b, w) (by simp)
      refine List.pairwise_cons.mpr ⟨fun z hz => ?_, ih h2 fun x hx => ha x (by simp [hx])⟩
      rcases (mem_insert m a v z).mp hz with rfl | hz
      · show b < a
        omega
      · exact h1 z hz

/-- What the canonical form says. -/
theorem wf_iff (m : Memory) : m.wf = true ↔
    m.Pairwise (fun x y => x.1 < y.1) ∧ ∀ x ∈ m, x.1 < 65536 ∧ x.2 ≠ unlisted := by
  simp [wf]

theorem wf_nil : wf [] = true := by decide

/-- A store to an address of the 16-bit space keeps the canonical form. -/
theorem wf_write {m : Memory} {a : Nat} (v : Byte) (ha : a < 65536) (h : m.wf = true) :
    (m.write a v).wf = true := by
  rw [wf_iff] at h ⊢
  have he : (m.erase a).Pairwise (fun x y => x.1 < y.1) := h.1.filter _
  have hm : ∀ x ∈ m.erase a, x.1 < 65536 ∧ x.2 ≠ unlisted := fun x hx => h.2 x (List.mem_filter.mp hx).1
  unfold write
  split
  · exact ⟨he, hm⟩
  · next hv =>
    refine ⟨pairwise_insert _ _ _ he (erase_ne m a), fun x hx => ?_⟩
    rcases (mem_insert _ _ _ _).mp hx with rfl | hx
    · exact ⟨ha, hv⟩
    · exact hm x hx

/-- Storing a list of bytes, as the host does, keeps the canonical form. -/
theorem wf_storeAll (stores : List (Word × Byte)) {m : Memory} (h : m.wf = true) : (m.storeAll stores).wf = true := by
  induction stores generalizing m with
  | nil => exact h
  | cons x xs ih => exact ih (wf_write x.2 x.1.isLt h)

@[simp] theorem storeAll_nil (m : Memory) : m.storeAll [] = m := rfl
@[simp] theorem storeAll_single (m : Memory) (a : Word) (v : Byte) : m.storeAll [(a, v)] = m.write a.toNat v := rfl

/-- A byte after a list of stores: the last one stored there, or the old one. -/
theorem read_storeAll (stores : List (Word × Byte)) (m : Memory) (a : Word) :
    (m.storeAll stores).read a.toNat = stores.foldl (fun v x => if x.1 = a then x.2 else v) (m.read a.toNat) := by
  induction stores generalizing m with
  | nil => rfl
  | cons x xs ih =>
    show ((m.write x.1.toNat x.2).storeAll xs).read a.toNat = _
    rw [ih, List.foldl_cons, read_write]
    congr 1
    by_cases h : x.1 = a
    · simp [h]
    · have : a.toNat ≠ x.1.toNat := fun e => h (BitVec.eq_of_toNat_eq e.symm)
      simp [this, h]

theorem read_below {b : Nat} {m : Memory} (h : ∀ x ∈ m, b < x.1) : m.read b = unlisted := by
  induction m with
  | nil => rfl
  | cons y m ih =>
    obtain ⟨c, u⟩ := y
    have hc : b < c := h (c, u) (by simp)
    simp [read, Nat.ne_of_gt hc, ih fun z hz => h z (by simp [hz])]

theorem wf_tail {x : Host.Cell} {m : Memory} (h : wf (x :: m) = true) :
    (∀ y ∈ m, x.1 < y.1) ∧ m.wf = true ∧ x.2 ≠ unlisted := by
  rw [wf_iff] at h
  obtain ⟨h1, h2⟩ := List.pairwise_cons.mp h.1
  exact ⟨h1, (wf_iff m).mpr ⟨h2, fun y hy => h.2 y (by simp [hy])⟩, (h.2 x (by simp)).2⟩

/-- Two memories in canonical form that read alike are the same data. -/
theorem wf_ext {m n : Memory} (hm : m.wf = true) (hn : n.wf = true) (h : ∀ a, m.read a = n.read a) : m = n := by
  induction m generalizing n with
  | nil =>
    cases n with
    | nil => rfl
    | cons y n => exact absurd (by simpa [read] using (h y.1).symm) (wf_tail hn).2.2
  | cons x m ih =>
    obtain ⟨b, w⟩ := x
    obtain ⟨hx, hm', hw⟩ := wf_tail hm
    cases n with
    | nil => exact absurd (by simpa [read] using h b) hw
    | cons y n =>
      obtain ⟨c, u⟩ := y
      obtain ⟨hy, hn', hu⟩ := wf_tail hn
      have hbc : b = c := by
        rcases Nat.lt_trichotomy b c with l | e | g
        · exact absurd (by simpa [read, Nat.ne_of_gt l, read_below fun z hz => Nat.lt_trans l (hy z hz)] using h b) hw
        · exact e
        · exact absurd (by simpa [read, Nat.ne_of_gt g, read_below fun z hz => Nat.lt_trans g (hx z hz)]
            using (h c).symm) hu
      subst hbc
      have huw : w = u := by simpa [read] using h b
      subst huw
      congr 1
      refine ih hm' hn' fun a => ?_
      by_cases hab : b = a
      · subst hab; rw [read_below hx, read_below hy]
      · simpa [read, hab] using h a

end Sys2Proof.Machine.Memory
end

