-- ==== Sys2Proof/Laws/State.lean ====
section
/-! SUPPORT. What every update of State and of the processor record leaves and sets, one lemma per field, so that
no later proof unfolds a record update. -/

namespace Sys2Proof.Machine

namespace State

-- onCpu
@[simp] theorem onCpu_cpu (s : State) (g : Cpu → Cpu) : (s.onCpu g).cpu = g s.cpu := rfl
@[simp] theorem onCpu_mem (s : State) (g : Cpu → Cpu) : (s.onCpu g).mem = s.mem := rfl
@[simp] theorem onCpu_faultMark (s : State) (g : Cpu → Cpu) : (s.onCpu g).faultMark = s.faultMark := rfl
@[simp] theorem onCpu_refusedMark (s : State) (g : Cpu → Cpu) : (s.onCpu g).refusedMark = s.refusedMark := rfl
@[simp] theorem onCpu_params (s : State) (g : Cpu → Cpu) : (s.onCpu g).params = s.params := rfl
@[simp] theorem onCpu_calls (s : State) (g : Cpu → Cpu) : (s.onCpu g).calls = s.calls := rfl
@[simp] theorem onCpu_hook (s : State) (g : Cpu → Cpu) : (s.onCpu g).hook = s.hook := rfl
@[simp] theorem onCpu_memHost (s : State) (g : Cpu → Cpu) : (s.onCpu g).memHost = s.memHost := rfl
@[simp] theorem onCpu_portIn (s : State) (g : Cpu → Cpu) : (s.onCpu g).portIn = s.portIn := rfl
@[simp] theorem onCpu_bus (s : State) (g : Cpu → Cpu) : (s.onCpu g).bus = s.bus := rfl
@[simp] theorem onCpu_delta (s : State) (g : Cpu → Cpu) : (s.onCpu g).delta = s.delta := rfl
@[simp] theorem onCpu_start (s : State) (g : Cpu → Cpu) : (s.onCpu g).start = s.start := rfl
@[simp] theorem onCpu_chain (s : State) (g : Cpu → Cpu) : (s.onCpu g).chain = s.chain := rfl
@[simp] theorem onCpu_pending (s : State) (g : Cpu → Cpu) : (s.onCpu g).pending = s.pending := rfl
@[simp] theorem onCpu_draws (s : State) (g : Cpu → Cpu) : (s.onCpu g).draws = s.draws := rfl

-- charge
@[simp] theorem charge_cpu (s : State) (k : Nat) : (s.charge k).cpu = s.cpu := rfl
@[simp] theorem charge_mem (s : State) (k : Nat) : (s.charge k).mem = s.mem := rfl
@[simp] theorem charge_faultMark (s : State) (k : Nat) : (s.charge k).faultMark = s.faultMark := rfl
@[simp] theorem charge_refusedMark (s : State) (k : Nat) : (s.charge k).refusedMark = s.refusedMark := rfl
@[simp] theorem charge_params (s : State) (k : Nat) : (s.charge k).params = s.params := rfl
@[simp] theorem charge_calls (s : State) (k : Nat) : (s.charge k).calls = s.calls := rfl
@[simp] theorem charge_hook (s : State) (k : Nat) : (s.charge k).hook = s.hook := rfl
@[simp] theorem charge_memHost (s : State) (k : Nat) : (s.charge k).memHost = s.memHost := rfl
@[simp] theorem charge_portIn (s : State) (k : Nat) : (s.charge k).portIn = s.portIn := rfl
@[simp] theorem charge_bus (s : State) (k : Nat) : (s.charge k).bus = s.bus := rfl
@[simp] theorem charge_delta (s : State) (k : Nat) : (s.charge k).delta = s.delta + k := rfl
@[simp] theorem charge_start (s : State) (k : Nat) : (s.charge k).start = s.start := rfl
@[simp] theorem charge_chain (s : State) (k : Nat) : (s.charge k).chain = s.chain := rfl
@[simp] theorem charge_pending (s : State) (k : Nat) : (s.charge k).pending = s.pending := rfl
@[simp] theorem charge_draws (s : State) (k : Nat) : (s.charge k).draws = s.draws := rfl

-- logged
@[simp] theorem logged_cpu (s : State) (x : BusAccess) : (s.logged x).cpu = s.cpu := rfl
@[simp] theorem logged_mem (s : State) (x : BusAccess) : (s.logged x).mem = s.mem := rfl
@[simp] theorem logged_faultMark (s : State) (x : BusAccess) : (s.logged x).faultMark = s.faultMark := rfl
@[simp] theorem logged_refusedMark (s : State) (x : BusAccess) : (s.logged x).refusedMark = s.refusedMark := rfl
@[simp] theorem logged_params (s : State) (x : BusAccess) : (s.logged x).params = s.params := rfl
@[simp] theorem logged_calls (s : State) (x : BusAccess) : (s.logged x).calls = s.calls := rfl
@[simp] theorem logged_hook (s : State) (x : BusAccess) : (s.logged x).hook = s.hook := rfl
@[simp] theorem logged_memHost (s : State) (x : BusAccess) : (s.logged x).memHost = s.memHost := rfl
@[simp] theorem logged_portIn (s : State) (x : BusAccess) : (s.logged x).portIn = s.portIn := rfl
@[simp] theorem logged_bus (s : State) (x : BusAccess) : (s.logged x).bus = x :: s.bus := rfl
@[simp] theorem logged_delta (s : State) (x : BusAccess) : (s.logged x).delta = s.delta := rfl
@[simp] theorem logged_start (s : State) (x : BusAccess) : (s.logged x).start = s.start := rfl
@[simp] theorem logged_chain (s : State) (x : BusAccess) : (s.logged x).chain = s.chain := rfl
@[simp] theorem logged_pending (s : State) (x : BusAccess) : (s.logged x).pending = s.pending := rfl
@[simp] theorem logged_draws (s : State) (x : BusAccess) : (s.logged x).draws = s.draws := rfl

-- served
@[simp] theorem served_cpu (s : State) (l : List (Word × Byte)) (x : BusAccess) : (s.served l x).cpu = s.cpu := rfl
@[simp] theorem served_mem (s : State) (l : List (Word × Byte)) (x : BusAccess) : (s.served l x).mem = s.mem.storeAll l := rfl
@[simp] theorem served_faultMark (s : State) (l : List (Word × Byte)) (x : BusAccess) : (s.served l x).faultMark = s.faultMark := rfl
@[simp] theorem served_refusedMark (s : State) (l : List (Word × Byte)) (x : BusAccess) : (s.served l x).refusedMark = s.refusedMark := rfl
@[simp] theorem served_params (s : State) (l : List (Word × Byte)) (x : BusAccess) : (s.served l x).params = s.params := rfl
@[simp] theorem served_calls (s : State) (l : List (Word × Byte)) (x : BusAccess) : (s.served l x).calls = s.calls := rfl
@[simp] theorem served_hook (s : State) (l : List (Word × Byte)) (x : BusAccess) : (s.served l x).hook = s.hook := rfl
@[simp] theorem served_memHost (s : State) (l : List (Word × Byte)) (x : BusAccess) : (s.served l x).memHost = s.memHost.tail := rfl
@[simp] theorem served_portIn (s : State) (l : List (Word × Byte)) (x : BusAccess) : (s.served l x).portIn = s.portIn := rfl
@[simp] theorem served_bus (s : State) (l : List (Word × Byte)) (x : BusAccess) : (s.served l x).bus = x :: s.bus := rfl
@[simp] theorem served_delta (s : State) (l : List (Word × Byte)) (x : BusAccess) : (s.served l x).delta = s.delta := rfl
@[simp] theorem served_start (s : State) (l : List (Word × Byte)) (x : BusAccess) : (s.served l x).start = s.start := rfl
@[simp] theorem served_chain (s : State) (l : List (Word × Byte)) (x : BusAccess) : (s.served l x).chain = s.chain := rfl
@[simp] theorem served_pending (s : State) (l : List (Word × Byte)) (x : BusAccess) : (s.served l x).pending = s.pending := rfl
@[simp] theorem served_draws (s : State) (l : List (Word × Byte)) (x : BusAccess) : (s.served l x).draws = s.draws := rfl

-- memRead_snd
@[simp] theorem memRead_snd_cpu (s : State) (addr : Word) : ((s.memRead addr).2).cpu = s.cpu := rfl
@[simp] theorem memRead_snd_mem (s : State) (addr : Word) : ((s.memRead addr).2).mem = s.mem.storeAll (s.nextReaction.stores.getD []) := rfl
@[simp] theorem memRead_snd_faultMark (s : State) (addr : Word) : ((s.memRead addr).2).faultMark = s.faultMark := rfl
@[simp] theorem memRead_snd_refusedMark (s : State) (addr : Word) : ((s.memRead addr).2).refusedMark = s.refusedMark := rfl
@[simp] theorem memRead_snd_params (s : State) (addr : Word) : ((s.memRead addr).2).params = s.params := rfl
@[simp] theorem memRead_snd_calls (s : State) (addr : Word) : ((s.memRead addr).2).calls = s.calls := rfl
@[simp] theorem memRead_snd_hook (s : State) (addr : Word) : ((s.memRead addr).2).hook = s.hook := rfl
@[simp] theorem memRead_snd_memHost (s : State) (addr : Word) : ((s.memRead addr).2).memHost = s.memHost.tail := rfl
@[simp] theorem memRead_snd_portIn (s : State) (addr : Word) : ((s.memRead addr).2).portIn = s.portIn := rfl
@[simp] theorem memRead_snd_bus (s : State) (addr : Word) : ((s.memRead addr).2).bus = .memRead addr (s.answerAt addr) :: s.bus := rfl
@[simp] theorem memRead_snd_delta (s : State) (addr : Word) : ((s.memRead addr).2).delta = s.delta := rfl
@[simp] theorem memRead_snd_start (s : State) (addr : Word) : ((s.memRead addr).2).start = s.start := rfl
@[simp] theorem memRead_snd_chain (s : State) (addr : Word) : ((s.memRead addr).2).chain = s.chain := rfl
@[simp] theorem memRead_snd_pending (s : State) (addr : Word) : ((s.memRead addr).2).pending = s.pending := rfl
@[simp] theorem memRead_snd_draws (s : State) (addr : Word) : ((s.memRead addr).2).draws = s.draws := rfl

@[simp] theorem memRead_fst (s : State) (addr : Word) : (s.memRead addr).1 = s.answerAt addr := rfl

-- memWrite
@[simp] theorem memWrite_cpu (s : State) (addr : Word) (v : Byte) : (s.memWrite addr v).cpu = s.cpu := rfl
@[simp] theorem memWrite_mem (s : State) (addr : Word) (v : Byte) : (s.memWrite addr v).mem = s.mem.storeAll (s.nextReaction.stores.getD [(addr, v)]) := rfl
@[simp] theorem memWrite_faultMark (s : State) (addr : Word) (v : Byte) : (s.memWrite addr v).faultMark = s.faultMark := rfl
@[simp] theorem memWrite_refusedMark (s : State) (addr : Word) (v : Byte) : (s.memWrite addr v).refusedMark = s.refusedMark := rfl
@[simp] theorem memWrite_params (s : State) (addr : Word) (v : Byte) : (s.memWrite addr v).params = s.params := rfl
@[simp] theorem memWrite_calls (s : State) (addr : Word) (v : Byte) : (s.memWrite addr v).calls = s.calls := rfl
@[simp] theorem memWrite_hook (s : State) (addr : Word) (v : Byte) : (s.memWrite addr v).hook = s.hook := rfl
@[simp] theorem memWrite_memHost (s : State) (addr : Word) (v : Byte) : (s.memWrite addr v).memHost = s.memHost.tail := rfl
@[simp] theorem memWrite_portIn (s : State) (addr : Word) (v : Byte) : (s.memWrite addr v).portIn = s.portIn := rfl
@[simp] theorem memWrite_bus (s : State) (addr : Word) (v : Byte) : (s.memWrite addr v).bus = .memWrite addr v :: s.bus := rfl
@[simp] theorem memWrite_delta (s : State) (addr : Word) (v : Byte) : (s.memWrite addr v).delta = s.delta := rfl
@[simp] theorem memWrite_start (s : State) (addr : Word) (v : Byte) : (s.memWrite addr v).start = s.start := rfl
@[simp] theorem memWrite_chain (s : State) (addr : Word) (v : Byte) : (s.memWrite addr v).chain = s.chain := rfl
@[simp] theorem memWrite_pending (s : State) (addr : Word) (v : Byte) : (s.memWrite addr v).pending = s.pending := rfl
@[simp] theorem memWrite_draws (s : State) (addr : Word) (v : Byte) : (s.memWrite addr v).draws = s.draws := rfl

-- memory as the host serves it: the reaction and the answer depend on memory and the prepared reactions alone
theorem answerAt_congr {s t : State} (hm : t.mem = s.mem) (hh : t.memHost = s.memHost) (addr : Word) :
    t.answerAt addr = s.answerAt addr := by
  simp [answerAt, nextReaction, byteAt, hm, hh]
@[simp] theorem answerAt_onCpu (s : State) (g : Cpu → Cpu) (addr : Word) :
    (s.onCpu g).answerAt addr = s.answerAt addr := rfl
@[simp] theorem answerAt_charge (s : State) (k : Nat) (addr : Word) : (s.charge k).answerAt addr = s.answerAt addr := rfl
@[simp] theorem answerAt_logged (s : State) (x : BusAccess) (addr : Word) :
    (s.logged x).answerAt addr = s.answerAt addr := rfl
@[simp] theorem nextReaction_onCpu (s : State) (g : Cpu → Cpu) : (s.onCpu g).nextReaction = s.nextReaction := rfl
@[simp] theorem nextReaction_charge (s : State) (k : Nat) : (s.charge k).nextReaction = s.nextReaction := rfl
@[simp] theorem nextReaction_logged (s : State) (x : BusAccess) : (s.logged x).nextReaction = s.nextReaction := rfl
theorem nextReaction_served (s : State) (l : List (Word × Byte)) (x : BusAccess) :
    (s.served l x).nextReaction = s.memHost.tail.headD {} := rfl

-- plain memory (R82)
theorem nextReaction_plain (s : State) (h : s.memHost = []) : s.nextReaction = {} := by simp [nextReaction, h]
theorem answerAt_plain (s : State) (h : s.memHost = []) (addr : Word) : s.answerAt addr = s.byteAt addr := by
  simp [answerAt, nextReaction_plain s h]
theorem memRead_plain (s : State) (h : s.memHost = []) (addr : Word) :
    s.memRead addr = (s.byteAt addr, s.logged (.memRead addr (s.byteAt addr))) := by
  simp [memRead, nextReaction_plain s h, answerAt_plain s h, served, logged, Memory.storeAll, h]
theorem memWrite_plain (s : State) (h : s.memHost = []) (addr : Word) (v : Byte) :
    s.memWrite addr v = { s with mem := s.mem.write addr.toNat v, bus := .memWrite addr v :: s.bus } := by
  simp [memWrite, nextReaction_plain s h, served, Memory.storeAll, h]

-- draw_snd
@[simp] theorem draw_snd_cpu (s : State) : (s.draw.2).cpu = s.cpu := rfl
@[simp] theorem draw_snd_mem (s : State) : (s.draw.2).mem = s.mem := rfl
@[simp] theorem draw_snd_faultMark (s : State) : (s.draw.2).faultMark = s.faultMark := rfl
@[simp] theorem draw_snd_refusedMark (s : State) : (s.draw.2).refusedMark = s.refusedMark := rfl
@[simp] theorem draw_snd_params (s : State) : (s.draw.2).params = s.params := rfl
@[simp] theorem draw_snd_calls (s : State) : (s.draw.2).calls = s.calls := rfl
@[simp] theorem draw_snd_hook (s : State) : (s.draw.2).hook = s.hook := rfl
@[simp] theorem draw_snd_memHost (s : State) : (s.draw.2).memHost = s.memHost := rfl
@[simp] theorem draw_snd_portIn (s : State) : (s.draw.2).portIn = s.portIn := rfl
@[simp] theorem draw_snd_bus (s : State) : (s.draw.2).bus = s.bus := rfl
@[simp] theorem draw_snd_delta (s : State) : (s.draw.2).delta = s.delta := rfl
@[simp] theorem draw_snd_start (s : State) : (s.draw.2).start = s.start := rfl
@[simp] theorem draw_snd_chain (s : State) : (s.draw.2).chain = s.chain := rfl
@[simp] theorem draw_snd_pending (s : State) : (s.draw.2).pending = s.pending := rfl
@[simp] theorem draw_snd_draws (s : State) : (s.draw.2).draws = s.draws + 1 := rfl

@[simp] theorem draw_fst (s : State) : s.draw.1 = Config.freeByte s.draws := rfl

-- portWrite
@[simp] theorem portWrite_cpu (s : State) (port : Word) (v : Byte) : (s.portWrite port v).cpu = s.cpu := rfl
@[simp] theorem portWrite_mem (s : State) (port : Word) (v : Byte) : (s.portWrite port v).mem = s.mem := rfl
@[simp] theorem portWrite_faultMark (s : State) (port : Word) (v : Byte) : (s.portWrite port v).faultMark = s.faultMark := rfl
@[simp] theorem portWrite_refusedMark (s : State) (port : Word) (v : Byte) : (s.portWrite port v).refusedMark = s.refusedMark := rfl
@[simp] theorem portWrite_params (s : State) (port : Word) (v : Byte) : (s.portWrite port v).params = s.params := rfl
@[simp] theorem portWrite_calls (s : State) (port : Word) (v : Byte) : (s.portWrite port v).calls = s.calls := rfl
@[simp] theorem portWrite_hook (s : State) (port : Word) (v : Byte) : (s.portWrite port v).hook = s.hook := rfl
@[simp] theorem portWrite_memHost (s : State) (port : Word) (v : Byte) : (s.portWrite port v).memHost = s.memHost := rfl
@[simp] theorem portWrite_portIn (s : State) (port : Word) (v : Byte) : (s.portWrite port v).portIn = s.portIn := rfl
@[simp] theorem portWrite_bus (s : State) (port : Word) (v : Byte) : (s.portWrite port v).bus = .portWrite port v :: s.bus := rfl
@[simp] theorem portWrite_delta (s : State) (port : Word) (v : Byte) : (s.portWrite port v).delta = s.delta := rfl
@[simp] theorem portWrite_start (s : State) (port : Word) (v : Byte) : (s.portWrite port v).start = s.start := rfl
@[simp] theorem portWrite_chain (s : State) (port : Word) (v : Byte) : (s.portWrite port v).chain = s.chain := rfl
@[simp] theorem portWrite_pending (s : State) (port : Word) (v : Byte) : (s.portWrite port v).pending = s.pending := rfl
@[simp] theorem portWrite_draws (s : State) (port : Word) (v : Byte) : (s.portWrite port v).draws = s.draws := rfl

-- jump
@[simp] theorem jump_cpu (s : State) (target : Word) : (s.jump target).cpu = { s.cpu with pc := target } := rfl
@[simp] theorem jump_mem (s : State) (target : Word) : (s.jump target).mem = s.mem := rfl
@[simp] theorem jump_faultMark (s : State) (target : Word) : (s.jump target).faultMark = s.faultMark := rfl
@[simp] theorem jump_refusedMark (s : State) (target : Word) : (s.jump target).refusedMark = s.refusedMark := rfl
@[simp] theorem jump_params (s : State) (target : Word) : (s.jump target).params = s.params := rfl
@[simp] theorem jump_calls (s : State) (target : Word) : (s.jump target).calls = s.calls := rfl
@[simp] theorem jump_hook (s : State) (target : Word) : (s.jump target).hook = s.hook := rfl
@[simp] theorem jump_memHost (s : State) (target : Word) : (s.jump target).memHost = s.memHost := rfl
@[simp] theorem jump_portIn (s : State) (target : Word) : (s.jump target).portIn = s.portIn := rfl
@[simp] theorem jump_bus (s : State) (target : Word) : (s.jump target).bus = s.bus := rfl
@[simp] theorem jump_delta (s : State) (target : Word) : (s.jump target).delta = s.delta := rfl
@[simp] theorem jump_start (s : State) (target : Word) : (s.jump target).start = s.start := rfl
@[simp] theorem jump_chain (s : State) (target : Word) : (s.jump target).chain = s.chain := rfl
@[simp] theorem jump_pending (s : State) (target : Word) : (s.jump target).pending = s.pending := rfl
@[simp] theorem jump_draws (s : State) (target : Word) : (s.jump target).draws = s.draws := rfl

-- portRead, whose script or draw count moves on
@[simp] theorem portRead_snd_cpu (s : State) (port : Word) : (s.portRead port).2.cpu = s.cpu := by
  unfold portRead; split <;> rfl
@[simp] theorem portRead_snd_mem (s : State) (port : Word) : (s.portRead port).2.mem = s.mem := by
  unfold portRead; split <;> rfl
@[simp] theorem portRead_snd_faultMark (s : State) (port : Word) : (s.portRead port).2.faultMark = s.faultMark := by
  unfold portRead; split <;> rfl
@[simp] theorem portRead_snd_refusedMark (s : State) (port : Word) : (s.portRead port).2.refusedMark = s.refusedMark := by
  unfold portRead; split <;> rfl
@[simp] theorem portRead_snd_params (s : State) (port : Word) : (s.portRead port).2.params = s.params := by
  unfold portRead; split <;> rfl
@[simp] theorem portRead_snd_calls (s : State) (port : Word) : (s.portRead port).2.calls = s.calls := by
  unfold portRead; split <;> rfl
@[simp] theorem portRead_snd_hook (s : State) (port : Word) : (s.portRead port).2.hook = s.hook := by
  unfold portRead; split <;> rfl
@[simp] theorem portRead_snd_memHost (s : State) (port : Word) : (s.portRead port).2.memHost = s.memHost := by
  unfold portRead; split <;> rfl
@[simp] theorem portRead_snd_delta (s : State) (port : Word) : (s.portRead port).2.delta = s.delta := by
  unfold portRead; split <;> rfl
@[simp] theorem portRead_snd_start (s : State) (port : Word) : (s.portRead port).2.start = s.start := by
  unfold portRead; split <;> rfl
@[simp] theorem portRead_snd_chain (s : State) (port : Word) : (s.portRead port).2.chain = s.chain := by
  unfold portRead; split <;> rfl
@[simp] theorem portRead_snd_pending (s : State) (port : Word) : (s.portRead port).2.pending = s.pending := by
  unfold portRead; split <;> rfl
@[simp] theorem portRead_snd_bus (s : State) (port : Word) :
    (s.portRead port).2.bus = .portRead port (s.portRead port).1 :: s.bus := by
  unfold portRead; split <;> rfl

/-- A scripted answer is the host's next one. -/
theorem portRead_scripted (s : State) (port : Word) {v : Byte} {rest : List Byte} (h : s.portIn = v :: rest) :
    s.portRead port = (v, { s with portIn := rest, bus := .portRead port v :: s.bus }) := by
  unfold portRead; rw [h]

/-- Without a script the answer is free. -/
theorem portRead_free (s : State) (port : Word) (h : s.portIn = []) :
    s.portRead port = (Config.portAnswer s.draws port,
      { s with draws := s.draws + 1, bus := .portRead port (Config.portAnswer s.draws port) :: s.bus }) := by
  unfold portRead; rw [h]

-- the byte at an address
theorem byteAt_eq (s : State) (addr : Word) : s.byteAt addr = s.mem.read addr.toNat := rfl
@[simp] theorem byteAt_onCpu (s : State) (g : Cpu → Cpu) (addr : Word) : (s.onCpu g).byteAt addr = s.byteAt addr := rfl
@[simp] theorem byteAt_charge (s : State) (k : Nat) (addr : Word) : (s.charge k).byteAt addr = s.byteAt addr := rfl
@[simp] theorem byteAt_logged (s : State) (x : BusAccess) (addr : Word) : (s.logged x).byteAt addr = s.byteAt addr := rfl
@[simp] theorem byteAt_draw (s : State) (addr : Word) : s.draw.2.byteAt addr = s.byteAt addr := rfl
@[simp] theorem byteAt_portWrite (s : State) (p : Word) (v : Byte) (addr : Word) :
    (s.portWrite p v).byteAt addr = s.byteAt addr := rfl
@[simp] theorem byteAt_portRead (s : State) (p addr : Word) : (s.portRead p).2.byteAt addr = s.byteAt addr := by
  simp [byteAt_eq]

end State

namespace Cpu

-- setAf
@[simp] theorem setAf_a (u : Cpu) (v : Word) : (u.setAf v).a = hiByte v := rfl
@[simp] theorem setAf_f (u : Cpu) (v : Word) : (u.setAf v).f = loByte v := rfl
@[simp] theorem setAf_b (u : Cpu) (v : Word) : (u.setAf v).b = u.b := rfl
@[simp] theorem setAf_c (u : Cpu) (v : Word) : (u.setAf v).c = u.c := rfl
@[simp] theorem setAf_d (u : Cpu) (v : Word) : (u.setAf v).d = u.d := rfl
@[simp] theorem setAf_e (u : Cpu) (v : Word) : (u.setAf v).e = u.e := rfl
@[simp] theorem setAf_h (u : Cpu) (v : Word) : (u.setAf v).h = u.h := rfl
@[simp] theorem setAf_l (u : Cpu) (v : Word) : (u.setAf v).l = u.l := rfl
@[simp] theorem setAf_afShadow (u : Cpu) (v : Word) : (u.setAf v).afShadow = u.afShadow := rfl
@[simp] theorem setAf_bcShadow (u : Cpu) (v : Word) : (u.setAf v).bcShadow = u.bcShadow := rfl
@[simp] theorem setAf_deShadow (u : Cpu) (v : Word) : (u.setAf v).deShadow = u.deShadow := rfl
@[simp] theorem setAf_hlShadow (u : Cpu) (v : Word) : (u.setAf v).hlShadow = u.hlShadow := rfl
@[simp] theorem setAf_ix (u : Cpu) (v : Word) : (u.setAf v).ix = u.ix := rfl
@[simp] theorem setAf_iy (u : Cpu) (v : Word) : (u.setAf v).iy = u.iy := rfl
@[simp] theorem setAf_sp (u : Cpu) (v : Word) : (u.setAf v).sp = u.sp := rfl
@[simp] theorem setAf_pc (u : Cpu) (v : Word) : (u.setAf v).pc = u.pc := rfl
@[simp] theorem setAf_i (u : Cpu) (v : Word) : (u.setAf v).i = u.i := rfl
@[simp] theorem setAf_r (u : Cpu) (v : Word) : (u.setAf v).r = u.r := rfl
@[simp] theorem setAf_iff1 (u : Cpu) (v : Word) : (u.setAf v).iff1 = u.iff1 := rfl
@[simp] theorem setAf_iff2 (u : Cpu) (v : Word) : (u.setAf v).iff2 = u.iff2 := rfl
@[simp] theorem setAf_im (u : Cpu) (v : Word) : (u.setAf v).im = u.im := rfl
@[simp] theorem setAf_eiDelay (u : Cpu) (v : Word) : (u.setAf v).eiDelay = u.eiDelay := rfl
@[simp] theorem setAf_halted (u : Cpu) (v : Word) : (u.setAf v).halted = u.halted := rfl
@[simp] theorem setAf_cycles (u : Cpu) (v : Word) : (u.setAf v).cycles = u.cycles := rfl

-- setBc
@[simp] theorem setBc_a (u : Cpu) (v : Word) : (u.setBc v).a = u.a := rfl
@[simp] theorem setBc_f (u : Cpu) (v : Word) : (u.setBc v).f = u.f := rfl
@[simp] theorem setBc_b (u : Cpu) (v : Word) : (u.setBc v).b = hiByte v := rfl
@[simp] theorem setBc_c (u : Cpu) (v : Word) : (u.setBc v).c = loByte v := rfl
@[simp] theorem setBc_d (u : Cpu) (v : Word) : (u.setBc v).d = u.d := rfl
@[simp] theorem setBc_e (u : Cpu) (v : Word) : (u.setBc v).e = u.e := rfl
@[simp] theorem setBc_h (u : Cpu) (v : Word) : (u.setBc v).h = u.h := rfl
@[simp] theorem setBc_l (u : Cpu) (v : Word) : (u.setBc v).l = u.l := rfl
@[simp] theorem setBc_afShadow (u : Cpu) (v : Word) : (u.setBc v).afShadow = u.afShadow := rfl
@[simp] theorem setBc_bcShadow (u : Cpu) (v : Word) : (u.setBc v).bcShadow = u.bcShadow := rfl
@[simp] theorem setBc_deShadow (u : Cpu) (v : Word) : (u.setBc v).deShadow = u.deShadow := rfl
@[simp] theorem setBc_hlShadow (u : Cpu) (v : Word) : (u.setBc v).hlShadow = u.hlShadow := rfl
@[simp] theorem setBc_ix (u : Cpu) (v : Word) : (u.setBc v).ix = u.ix := rfl
@[simp] theorem setBc_iy (u : Cpu) (v : Word) : (u.setBc v).iy = u.iy := rfl
@[simp] theorem setBc_sp (u : Cpu) (v : Word) : (u.setBc v).sp = u.sp := rfl
@[simp] theorem setBc_pc (u : Cpu) (v : Word) : (u.setBc v).pc = u.pc := rfl
@[simp] theorem setBc_i (u : Cpu) (v : Word) : (u.setBc v).i = u.i := rfl
@[simp] theorem setBc_r (u : Cpu) (v : Word) : (u.setBc v).r = u.r := rfl
@[simp] theorem setBc_iff1 (u : Cpu) (v : Word) : (u.setBc v).iff1 = u.iff1 := rfl
@[simp] theorem setBc_iff2 (u : Cpu) (v : Word) : (u.setBc v).iff2 = u.iff2 := rfl
@[simp] theorem setBc_im (u : Cpu) (v : Word) : (u.setBc v).im = u.im := rfl
@[simp] theorem setBc_eiDelay (u : Cpu) (v : Word) : (u.setBc v).eiDelay = u.eiDelay := rfl
@[simp] theorem setBc_halted (u : Cpu) (v : Word) : (u.setBc v).halted = u.halted := rfl
@[simp] theorem setBc_cycles (u : Cpu) (v : Word) : (u.setBc v).cycles = u.cycles := rfl

-- setDe
@[simp] theorem setDe_a (u : Cpu) (v : Word) : (u.setDe v).a = u.a := rfl
@[simp] theorem setDe_f (u : Cpu) (v : Word) : (u.setDe v).f = u.f := rfl
@[simp] theorem setDe_b (u : Cpu) (v : Word) : (u.setDe v).b = u.b := rfl
@[simp] theorem setDe_c (u : Cpu) (v : Word) : (u.setDe v).c = u.c := rfl
@[simp] theorem setDe_d (u : Cpu) (v : Word) : (u.setDe v).d = hiByte v := rfl
@[simp] theorem setDe_e (u : Cpu) (v : Word) : (u.setDe v).e = loByte v := rfl
@[simp] theorem setDe_h (u : Cpu) (v : Word) : (u.setDe v).h = u.h := rfl
@[simp] theorem setDe_l (u : Cpu) (v : Word) : (u.setDe v).l = u.l := rfl
@[simp] theorem setDe_afShadow (u : Cpu) (v : Word) : (u.setDe v).afShadow = u.afShadow := rfl
@[simp] theorem setDe_bcShadow (u : Cpu) (v : Word) : (u.setDe v).bcShadow = u.bcShadow := rfl
@[simp] theorem setDe_deShadow (u : Cpu) (v : Word) : (u.setDe v).deShadow = u.deShadow := rfl
@[simp] theorem setDe_hlShadow (u : Cpu) (v : Word) : (u.setDe v).hlShadow = u.hlShadow := rfl
@[simp] theorem setDe_ix (u : Cpu) (v : Word) : (u.setDe v).ix = u.ix := rfl
@[simp] theorem setDe_iy (u : Cpu) (v : Word) : (u.setDe v).iy = u.iy := rfl
@[simp] theorem setDe_sp (u : Cpu) (v : Word) : (u.setDe v).sp = u.sp := rfl
@[simp] theorem setDe_pc (u : Cpu) (v : Word) : (u.setDe v).pc = u.pc := rfl
@[simp] theorem setDe_i (u : Cpu) (v : Word) : (u.setDe v).i = u.i := rfl
@[simp] theorem setDe_r (u : Cpu) (v : Word) : (u.setDe v).r = u.r := rfl
@[simp] theorem setDe_iff1 (u : Cpu) (v : Word) : (u.setDe v).iff1 = u.iff1 := rfl
@[simp] theorem setDe_iff2 (u : Cpu) (v : Word) : (u.setDe v).iff2 = u.iff2 := rfl
@[simp] theorem setDe_im (u : Cpu) (v : Word) : (u.setDe v).im = u.im := rfl
@[simp] theorem setDe_eiDelay (u : Cpu) (v : Word) : (u.setDe v).eiDelay = u.eiDelay := rfl
@[simp] theorem setDe_halted (u : Cpu) (v : Word) : (u.setDe v).halted = u.halted := rfl
@[simp] theorem setDe_cycles (u : Cpu) (v : Word) : (u.setDe v).cycles = u.cycles := rfl

-- setHl
@[simp] theorem setHl_a (u : Cpu) (v : Word) : (u.setHl v).a = u.a := rfl
@[simp] theorem setHl_f (u : Cpu) (v : Word) : (u.setHl v).f = u.f := rfl
@[simp] theorem setHl_b (u : Cpu) (v : Word) : (u.setHl v).b = u.b := rfl
@[simp] theorem setHl_c (u : Cpu) (v : Word) : (u.setHl v).c = u.c := rfl
@[simp] theorem setHl_d (u : Cpu) (v : Word) : (u.setHl v).d = u.d := rfl
@[simp] theorem setHl_e (u : Cpu) (v : Word) : (u.setHl v).e = u.e := rfl
@[simp] theorem setHl_h (u : Cpu) (v : Word) : (u.setHl v).h = hiByte v := rfl
@[simp] theorem setHl_l (u : Cpu) (v : Word) : (u.setHl v).l = loByte v := rfl
@[simp] theorem setHl_afShadow (u : Cpu) (v : Word) : (u.setHl v).afShadow = u.afShadow := rfl
@[simp] theorem setHl_bcShadow (u : Cpu) (v : Word) : (u.setHl v).bcShadow = u.bcShadow := rfl
@[simp] theorem setHl_deShadow (u : Cpu) (v : Word) : (u.setHl v).deShadow = u.deShadow := rfl
@[simp] theorem setHl_hlShadow (u : Cpu) (v : Word) : (u.setHl v).hlShadow = u.hlShadow := rfl
@[simp] theorem setHl_ix (u : Cpu) (v : Word) : (u.setHl v).ix = u.ix := rfl
@[simp] theorem setHl_iy (u : Cpu) (v : Word) : (u.setHl v).iy = u.iy := rfl
@[simp] theorem setHl_sp (u : Cpu) (v : Word) : (u.setHl v).sp = u.sp := rfl
@[simp] theorem setHl_pc (u : Cpu) (v : Word) : (u.setHl v).pc = u.pc := rfl
@[simp] theorem setHl_i (u : Cpu) (v : Word) : (u.setHl v).i = u.i := rfl
@[simp] theorem setHl_r (u : Cpu) (v : Word) : (u.setHl v).r = u.r := rfl
@[simp] theorem setHl_iff1 (u : Cpu) (v : Word) : (u.setHl v).iff1 = u.iff1 := rfl
@[simp] theorem setHl_iff2 (u : Cpu) (v : Word) : (u.setHl v).iff2 = u.iff2 := rfl
@[simp] theorem setHl_im (u : Cpu) (v : Word) : (u.setHl v).im = u.im := rfl
@[simp] theorem setHl_eiDelay (u : Cpu) (v : Word) : (u.setHl v).eiDelay = u.eiDelay := rfl
@[simp] theorem setHl_halted (u : Cpu) (v : Word) : (u.setHl v).halted = u.halted := rfl
@[simp] theorem setHl_cycles (u : Cpu) (v : Word) : (u.setHl v).cycles = u.cycles := rfl

-- setFlags
@[simp] theorem setFlags_a (u : Cpu) (g : Flags) : (u.setFlags g).a = u.a := rfl
@[simp] theorem setFlags_f (u : Cpu) (g : Flags) : (u.setFlags g).f = g.toByte := rfl
@[simp] theorem setFlags_b (u : Cpu) (g : Flags) : (u.setFlags g).b = u.b := rfl
@[simp] theorem setFlags_c (u : Cpu) (g : Flags) : (u.setFlags g).c = u.c := rfl
@[simp] theorem setFlags_d (u : Cpu) (g : Flags) : (u.setFlags g).d = u.d := rfl
@[simp] theorem setFlags_e (u : Cpu) (g : Flags) : (u.setFlags g).e = u.e := rfl
@[simp] theorem setFlags_h (u : Cpu) (g : Flags) : (u.setFlags g).h = u.h := rfl
@[simp] theorem setFlags_l (u : Cpu) (g : Flags) : (u.setFlags g).l = u.l := rfl
@[simp] theorem setFlags_afShadow (u : Cpu) (g : Flags) : (u.setFlags g).afShadow = u.afShadow := rfl
@[simp] theorem setFlags_bcShadow (u : Cpu) (g : Flags) : (u.setFlags g).bcShadow = u.bcShadow := rfl
@[simp] theorem setFlags_deShadow (u : Cpu) (g : Flags) : (u.setFlags g).deShadow = u.deShadow := rfl
@[simp] theorem setFlags_hlShadow (u : Cpu) (g : Flags) : (u.setFlags g).hlShadow = u.hlShadow := rfl
@[simp] theorem setFlags_ix (u : Cpu) (g : Flags) : (u.setFlags g).ix = u.ix := rfl
@[simp] theorem setFlags_iy (u : Cpu) (g : Flags) : (u.setFlags g).iy = u.iy := rfl
@[simp] theorem setFlags_sp (u : Cpu) (g : Flags) : (u.setFlags g).sp = u.sp := rfl
@[simp] theorem setFlags_pc (u : Cpu) (g : Flags) : (u.setFlags g).pc = u.pc := rfl
@[simp] theorem setFlags_i (u : Cpu) (g : Flags) : (u.setFlags g).i = u.i := rfl
@[simp] theorem setFlags_r (u : Cpu) (g : Flags) : (u.setFlags g).r = u.r := rfl
@[simp] theorem setFlags_iff1 (u : Cpu) (g : Flags) : (u.setFlags g).iff1 = u.iff1 := rfl
@[simp] theorem setFlags_iff2 (u : Cpu) (g : Flags) : (u.setFlags g).iff2 = u.iff2 := rfl
@[simp] theorem setFlags_im (u : Cpu) (g : Flags) : (u.setFlags g).im = u.im := rfl
@[simp] theorem setFlags_eiDelay (u : Cpu) (g : Flags) : (u.setFlags g).eiDelay = u.eiDelay := rfl
@[simp] theorem setFlags_halted (u : Cpu) (g : Flags) : (u.setFlags g).halted = u.halted := rfl
@[simp] theorem setFlags_cycles (u : Cpu) (g : Flags) : (u.setFlags g).cycles = u.cycles := rfl

-- setR8
@[simp] theorem setR8_f (u : Cpu) (r : R8) (v : Byte) : (u.setR8 r v).f = u.f := by cases r <;> rfl
@[simp] theorem setR8_afShadow (u : Cpu) (r : R8) (v : Byte) : (u.setR8 r v).afShadow = u.afShadow := by cases r <;> rfl
@[simp] theorem setR8_bcShadow (u : Cpu) (r : R8) (v : Byte) : (u.setR8 r v).bcShadow = u.bcShadow := by cases r <;> rfl
@[simp] theorem setR8_deShadow (u : Cpu) (r : R8) (v : Byte) : (u.setR8 r v).deShadow = u.deShadow := by cases r <;> rfl
@[simp] theorem setR8_hlShadow (u : Cpu) (r : R8) (v : Byte) : (u.setR8 r v).hlShadow = u.hlShadow := by cases r <;> rfl
@[simp] theorem setR8_ix (u : Cpu) (r : R8) (v : Byte) : (u.setR8 r v).ix = u.ix := by cases r <;> rfl
@[simp] theorem setR8_iy (u : Cpu) (r : R8) (v : Byte) : (u.setR8 r v).iy = u.iy := by cases r <;> rfl
@[simp] theorem setR8_sp (u : Cpu) (r : R8) (v : Byte) : (u.setR8 r v).sp = u.sp := by cases r <;> rfl
@[simp] theorem setR8_pc (u : Cpu) (r : R8) (v : Byte) : (u.setR8 r v).pc = u.pc := by cases r <;> rfl
@[simp] theorem setR8_i (u : Cpu) (r : R8) (v : Byte) : (u.setR8 r v).i = u.i := by cases r <;> rfl
@[simp] theorem setR8_r (u : Cpu) (r : R8) (v : Byte) : (u.setR8 r v).r = u.r := by cases r <;> rfl
@[simp] theorem setR8_iff1 (u : Cpu) (r : R8) (v : Byte) : (u.setR8 r v).iff1 = u.iff1 := by cases r <;> rfl
@[simp] theorem setR8_iff2 (u : Cpu) (r : R8) (v : Byte) : (u.setR8 r v).iff2 = u.iff2 := by cases r <;> rfl
@[simp] theorem setR8_im (u : Cpu) (r : R8) (v : Byte) : (u.setR8 r v).im = u.im := by cases r <;> rfl
@[simp] theorem setR8_eiDelay (u : Cpu) (r : R8) (v : Byte) : (u.setR8 r v).eiDelay = u.eiDelay := by cases r <;> rfl
@[simp] theorem setR8_halted (u : Cpu) (r : R8) (v : Byte) : (u.setR8 r v).halted = u.halted := by cases r <;> rfl
@[simp] theorem setR8_cycles (u : Cpu) (r : R8) (v : Byte) : (u.setR8 r v).cycles = u.cycles := by cases r <;> rfl

-- setRp
@[simp] theorem setRp_a (u : Cpu) (p : Rp) (v : Word) : (u.setRp p v).a = u.a := by cases p <;> rfl
@[simp] theorem setRp_f (u : Cpu) (p : Rp) (v : Word) : (u.setRp p v).f = u.f := by cases p <;> rfl
@[simp] theorem setRp_afShadow (u : Cpu) (p : Rp) (v : Word) : (u.setRp p v).afShadow = u.afShadow := by cases p <;> rfl
@[simp] theorem setRp_bcShadow (u : Cpu) (p : Rp) (v : Word) : (u.setRp p v).bcShadow = u.bcShadow := by cases p <;> rfl
@[simp] theorem setRp_deShadow (u : Cpu) (p : Rp) (v : Word) : (u.setRp p v).deShadow = u.deShadow := by cases p <;> rfl
@[simp] theorem setRp_hlShadow (u : Cpu) (p : Rp) (v : Word) : (u.setRp p v).hlShadow = u.hlShadow := by cases p <;> rfl
@[simp] theorem setRp_ix (u : Cpu) (p : Rp) (v : Word) : (u.setRp p v).ix = u.ix := by cases p <;> rfl
@[simp] theorem setRp_iy (u : Cpu) (p : Rp) (v : Word) : (u.setRp p v).iy = u.iy := by cases p <;> rfl
@[simp] theorem setRp_pc (u : Cpu) (p : Rp) (v : Word) : (u.setRp p v).pc = u.pc := by cases p <;> rfl
@[simp] theorem setRp_i (u : Cpu) (p : Rp) (v : Word) : (u.setRp p v).i = u.i := by cases p <;> rfl
@[simp] theorem setRp_r (u : Cpu) (p : Rp) (v : Word) : (u.setRp p v).r = u.r := by cases p <;> rfl
@[simp] theorem setRp_iff1 (u : Cpu) (p : Rp) (v : Word) : (u.setRp p v).iff1 = u.iff1 := by cases p <;> rfl
@[simp] theorem setRp_iff2 (u : Cpu) (p : Rp) (v : Word) : (u.setRp p v).iff2 = u.iff2 := by cases p <;> rfl
@[simp] theorem setRp_im (u : Cpu) (p : Rp) (v : Word) : (u.setRp p v).im = u.im := by cases p <;> rfl
@[simp] theorem setRp_eiDelay (u : Cpu) (p : Rp) (v : Word) : (u.setRp p v).eiDelay = u.eiDelay := by cases p <;> rfl
@[simp] theorem setRp_halted (u : Cpu) (p : Rp) (v : Word) : (u.setRp p v).halted = u.halted := by cases p <;> rfl
@[simp] theorem setRp_cycles (u : Cpu) (p : Rp) (v : Word) : (u.setRp p v).cycles = u.cycles := by cases p <;> rfl

-- setRp2
@[simp] theorem setRp2_afShadow (u : Cpu) (p : Rp2) (v : Word) : (u.setRp2 p v).afShadow = u.afShadow := by cases p <;> rfl
@[simp] theorem setRp2_bcShadow (u : Cpu) (p : Rp2) (v : Word) : (u.setRp2 p v).bcShadow = u.bcShadow := by cases p <;> rfl
@[simp] theorem setRp2_deShadow (u : Cpu) (p : Rp2) (v : Word) : (u.setRp2 p v).deShadow = u.deShadow := by cases p <;> rfl
@[simp] theorem setRp2_hlShadow (u : Cpu) (p : Rp2) (v : Word) : (u.setRp2 p v).hlShadow = u.hlShadow := by cases p <;> rfl
@[simp] theorem setRp2_ix (u : Cpu) (p : Rp2) (v : Word) : (u.setRp2 p v).ix = u.ix := by cases p <;> rfl
@[simp] theorem setRp2_iy (u : Cpu) (p : Rp2) (v : Word) : (u.setRp2 p v).iy = u.iy := by cases p <;> rfl
@[simp] theorem setRp2_sp (u : Cpu) (p : Rp2) (v : Word) : (u.setRp2 p v).sp = u.sp := by cases p <;> rfl
@[simp] theorem setRp2_pc (u : Cpu) (p : Rp2) (v : Word) : (u.setRp2 p v).pc = u.pc := by cases p <;> rfl
@[simp] theorem setRp2_i (u : Cpu) (p : Rp2) (v : Word) : (u.setRp2 p v).i = u.i := by cases p <;> rfl
@[simp] theorem setRp2_r (u : Cpu) (p : Rp2) (v : Word) : (u.setRp2 p v).r = u.r := by cases p <;> rfl
@[simp] theorem setRp2_iff1 (u : Cpu) (p : Rp2) (v : Word) : (u.setRp2 p v).iff1 = u.iff1 := by cases p <;> rfl
@[simp] theorem setRp2_iff2 (u : Cpu) (p : Rp2) (v : Word) : (u.setRp2 p v).iff2 = u.iff2 := by cases p <;> rfl
@[simp] theorem setRp2_im (u : Cpu) (p : Rp2) (v : Word) : (u.setRp2 p v).im = u.im := by cases p <;> rfl
@[simp] theorem setRp2_eiDelay (u : Cpu) (p : Rp2) (v : Word) : (u.setRp2 p v).eiDelay = u.eiDelay := by cases p <;> rfl
@[simp] theorem setRp2_halted (u : Cpu) (p : Rp2) (v : Word) : (u.setRp2 p v).halted = u.halted := by cases p <;> rfl
@[simp] theorem setRp2_cycles (u : Cpu) (p : Rp2) (v : Word) : (u.setRp2 p v).cycles = u.cycles := by cases p <;> rfl

-- setXy
@[simp] theorem setXy_a (u : Cpu) (x : Xy) (v : Word) : (u.setXy x v).a = u.a := by cases x <;> rfl
@[simp] theorem setXy_f (u : Cpu) (x : Xy) (v : Word) : (u.setXy x v).f = u.f := by cases x <;> rfl
@[simp] theorem setXy_b (u : Cpu) (x : Xy) (v : Word) : (u.setXy x v).b = u.b := by cases x <;> rfl
@[simp] theorem setXy_c (u : Cpu) (x : Xy) (v : Word) : (u.setXy x v).c = u.c := by cases x <;> rfl
@[simp] theorem setXy_d (u : Cpu) (x : Xy) (v : Word) : (u.setXy x v).d = u.d := by cases x <;> rfl
@[simp] theorem setXy_e (u : Cpu) (x : Xy) (v : Word) : (u.setXy x v).e = u.e := by cases x <;> rfl
@[simp] theorem setXy_h (u : Cpu) (x : Xy) (v : Word) : (u.setXy x v).h = u.h := by cases x <;> rfl
@[simp] theorem setXy_l (u : Cpu) (x : Xy) (v : Word) : (u.setXy x v).l = u.l := by cases x <;> rfl
@[simp] theorem setXy_afShadow (u : Cpu) (x : Xy) (v : Word) : (u.setXy x v).afShadow = u.afShadow := by cases x <;> rfl
@[simp] theorem setXy_bcShadow (u : Cpu) (x : Xy) (v : Word) : (u.setXy x v).bcShadow = u.bcShadow := by cases x <;> rfl
@[simp] theorem setXy_deShadow (u : Cpu) (x : Xy) (v : Word) : (u.setXy x v).deShadow = u.deShadow := by cases x <;> rfl
@[simp] theorem setXy_hlShadow (u : Cpu) (x : Xy) (v : Word) : (u.setXy x v).hlShadow = u.hlShadow := by cases x <;> rfl
@[simp] theorem setXy_sp (u : Cpu) (x : Xy) (v : Word) : (u.setXy x v).sp = u.sp := by cases x <;> rfl
@[simp] theorem setXy_pc (u : Cpu) (x : Xy) (v : Word) : (u.setXy x v).pc = u.pc := by cases x <;> rfl
@[simp] theorem setXy_i (u : Cpu) (x : Xy) (v : Word) : (u.setXy x v).i = u.i := by cases x <;> rfl
@[simp] theorem setXy_r (u : Cpu) (x : Xy) (v : Word) : (u.setXy x v).r = u.r := by cases x <;> rfl
@[simp] theorem setXy_iff1 (u : Cpu) (x : Xy) (v : Word) : (u.setXy x v).iff1 = u.iff1 := by cases x <;> rfl
@[simp] theorem setXy_iff2 (u : Cpu) (x : Xy) (v : Word) : (u.setXy x v).iff2 = u.iff2 := by cases x <;> rfl
@[simp] theorem setXy_im (u : Cpu) (x : Xy) (v : Word) : (u.setXy x v).im = u.im := by cases x <;> rfl
@[simp] theorem setXy_eiDelay (u : Cpu) (x : Xy) (v : Word) : (u.setXy x v).eiDelay = u.eiDelay := by cases x <;> rfl
@[simp] theorem setXy_halted (u : Cpu) (x : Xy) (v : Word) : (u.setXy x v).halted = u.halted := by cases x <;> rfl
@[simp] theorem setXy_cycles (u : Cpu) (x : Xy) (v : Word) : (u.setXy x v).cycles = u.cycles := by cases x <;> rfl

@[simp] theorem r8_setR8_same (u : Cpu) (r : R8) (v : Byte) : (u.setR8 r v).r8 r = v := by cases r <;> rfl
theorem r8_setR8_other (u : Cpu) {r q : R8} (v : Byte) (h : q ≠ r) : (u.setR8 r v).r8 q = u.r8 q := by
  cases r <;> cases q <;> first | rfl | exact absurd rfl h
@[simp] theorem r8_setFlags (u : Cpu) (g : Flags) (r : R8) : (u.setFlags g).r8 r = u.r8 r := by cases r <;> rfl
@[simp] theorem xy_setXy_same (u : Cpu) (x : Xy) (v : Word) : (u.setXy x v).xy x = v := by cases x <;> rfl
theorem xy_setXy_other (u : Cpu) {x y : Xy} (v : Word) (h : y ≠ x) : (u.setXy x v).xy y = u.xy y := by
  cases x <;> cases y <;> first | rfl | exact absurd rfl h

end Cpu

-- Pairs and their halves

theorem wordOf_toNat (hi lo : Byte) : (wordOf hi lo).toNat = 256 * hi.toNat + lo.toNat := by
  have h : (wordOf hi lo).toNat = hi.toNat <<< 8 ||| lo.toNat := BitVec.toNat_append hi lo
  rw [h, ← Nat.shiftLeft_add_eq_or_of_lt lo.isLt, Nat.shiftLeft_eq]
  omega

theorem hiByte_toNat (v : Word) : (hiByte v).toNat = v.toNat / 256 := by
  have := v.isLt
  simp only [hiByte, BitVec.extractLsb'_toNat, Nat.shiftRight_eq_div_pow]
  omega

theorem loByte_toNat (v : Word) : (loByte v).toNat = v.toNat % 256 := by
  simp [loByte, BitVec.extractLsb'_toNat]

@[simp] theorem hiByte_wordOf (hi lo : Byte) : hiByte (wordOf hi lo) = hi := by
  apply BitVec.eq_of_toNat_eq
  rw [hiByte_toNat, wordOf_toNat]
  have := lo.isLt
  omega

@[simp] theorem loByte_wordOf (hi lo : Byte) : loByte (wordOf hi lo) = lo := by
  apply BitVec.eq_of_toNat_eq
  rw [loByte_toNat, wordOf_toNat]
  have := lo.isLt
  omega

@[simp] theorem wordOf_hiByte_loByte (v : Word) : wordOf (hiByte v) (loByte v) = v := by
  apply BitVec.eq_of_toNat_eq
  rw [wordOf_toNat, hiByte_toNat, loByte_toNat]
  omega

@[simp] theorem Cpu.hl_setHl (u : Cpu) (v : Word) : (u.setHl v).hl = v := wordOf_hiByte_loByte v
@[simp] theorem Cpu.de_setDe (u : Cpu) (v : Word) : (u.setDe v).de = v := wordOf_hiByte_loByte v
@[simp] theorem Cpu.bc_setBc (u : Cpu) (v : Word) : (u.setBc v).bc = v := wordOf_hiByte_loByte v
@[simp] theorem Cpu.af_setAf (u : Cpu) (v : Word) : (u.setAf v).af = v := wordOf_hiByte_loByte v
@[simp] theorem Cpu.rp_setRp_same (u : Cpu) (p : Rp) (v : Word) : (u.setRp p v).rp p = v := by
  cases p <;> simp [Cpu.setRp, Cpu.rp]
@[simp] theorem Cpu.rp2_setRp2_same (u : Cpu) (p : Rp2) (v : Word) : (u.setRp2 p v).rp2 p = v := by
  cases p <;> simp [Cpu.setRp2, Cpu.rp2]

-- The flags and their byte

@[simp] theorem Flags.ofByte_toByte (g : Flags) : Flags.ofByte g.toByte = g := by
  obtain ⟨s, z, f5, h, f3, pv, n, c⟩ := g
  revert s z f5 h f3 pv n c
  decide

@[simp] theorem Cpu.flags_setFlags (u : Cpu) (g : Flags) : (u.setFlags g).flags = g := Flags.ofByte_toByte g

end Sys2Proof.Machine
end

