-- ==== Sys2Proof/Laws/Ops.lean ====
section
/-! SUPPORT. What the shared operations do, one lemma each, for proofs to cite instead of unfolding them: the memory
operations by the bytes they leave and the canonical form they keep, the stack in closed form, the operands, and for each shape of instruction (and so for `exec`) that it completes and what it leaves. -/

namespace Sys2Proof.Machine

-- Memory operations

/-- A byte after the host has served an access: the last one it stored there, or the old one. -/
theorem byteAt_served (s : State) (l : List (Word × Byte)) (x : BusAccess) (b : Word) :
    (s.served l x).byteAt b = l.foldl (fun v y => if y.1 = b then y.2 else v) (s.byteAt b) :=
  Memory.read_storeAll l s.mem b

/-- A byte after a read: as before, but for what the host stored during it. -/
theorem byteAt_memRead (s : State) (a b : Word) :
    (s.memRead a).2.byteAt b =
      (s.nextReaction.stores.getD []).foldl (fun v y => if y.1 = b then y.2 else v) (s.byteAt b) :=
  byteAt_served _ _ _ _

/-- A byte after a store. -/
theorem byteAt_memWrite (s : State) (a b : Word) (v : Byte) :
    (s.memWrite a v).byteAt b =
      (s.nextReaction.stores.getD [(a, v)]).foldl (fun v y => if y.1 = b then y.2 else v) (s.byteAt b) :=
  byteAt_served _ _ _ _

/-- A byte after a store to plain memory (R82). -/
theorem byteAt_memWrite_plain (s : State) (h : s.memHost = []) (a b : Word) (v : Byte) :
    (s.memWrite a v).byteAt b = if a = b then v else s.byteAt b := by
  rw [byteAt_memWrite, State.nextReaction_plain s h]; rfl

/-- A byte after a 16-bit store to plain memory (R73, R82). -/
theorem byteAt_memWrite16_plain (s : State) (h : s.memHost = []) (a b v : Word) :
    (s.memWrite16 a v).byteAt b =
      if a + 1 = b then hiByte v else if a = b then loByte v else s.byteAt b := by
  rw [State.memWrite16, byteAt_memWrite_plain _ (by simp [h]), byteAt_memWrite_plain _ h]

/-- What a read is answered after the host has served an access: its next reaction, or what memory then holds. -/
theorem answerAt_served (s : State) (l : List (Word × Byte)) (x : BusAccess) (a : Word) :
    (s.served l x).answerAt a =
      (s.memHost.tail.headD {}).answer.getD (l.foldl (fun v y => if y.1 = a then y.2 else v) (s.byteAt a)) := by
  rw [← byteAt_served s l x a]; rfl

theorem wf_served {s : State} (l : List (Word × Byte)) (x : BusAccess) (h : s.mem.wf = true) :
    (s.served l x).mem.wf = true :=
  Memory.wf_storeAll l h

theorem wf_memRead {s : State} (a : Word) (h : s.mem.wf = true) : (s.memRead a).2.mem.wf = true := wf_served _ _ h

theorem wf_memWrite {s : State} (a : Word) (v : Byte) (h : s.mem.wf = true) : (s.memWrite a v).mem.wf = true :=
  wf_served _ _ h

theorem wf_memWrite16 {s : State} (a v : Word) (h : s.mem.wf = true) : (s.memWrite16 a v).mem.wf = true :=
  wf_memWrite _ _ (wf_memWrite _ _ h)

theorem wf_push {s : State} (v : Word) (h : s.mem.wf = true) : (s.push v).mem.wf = true :=
  wf_memWrite (s := (State.onCpu _ _)) _ _ (wf_memWrite (s := (State.onCpu _ _)) _ _ h)

theorem wf_pop {s : State} (h : s.mem.wf = true) : s.pop.2.mem.wf = true :=
  wf_memRead (s := (s.memRead s.cpu.sp).2.onCpu fun u => { u with sp := u.sp + 1 }) (s.cpu.sp + 1)
    (wf_memRead s.cpu.sp h)

theorem wf_call {s : State} (target : Word) (h : s.mem.wf = true) : (s.call target).mem.wf = true := wf_push _ h

-- The stack

theorem sub_one_sub_one (w : Word) : w - 1 - 1 = w - 2 := by bv_omega

theorem add_one_add_one (w : Word) : w + 1 + 1 = w + 2 := by bv_omega

/-- A push: SP two lower, and the two stores, the high byte's first (R75). -/
theorem push_eq (s : State) (v : Word) :
    s.push v =
      ((s.memWrite (s.cpu.sp - 1) (hiByte v)).memWrite (s.cpu.sp - 2) (loByte v)).onCpu fun u =>
        { u with sp := u.sp - 2 } := by
  show _ = State.onCpu _ fun u => { u with sp := s.cpu.sp - 2 }
  rw [← sub_one_sub_one]; rfl

/-- A pop: the word at SP, SP two higher, and the two reads (R75), which are those of a 16-bit read (R73). -/
theorem pop_eq (s : State) :
    s.pop = ((s.memRead16 s.cpu.sp).1, (s.memRead16 s.cpu.sp).2.onCpu fun u => { u with sp := u.sp + 2 }) := by
  show _ = (_, State.onCpu _ fun u => { u with sp := s.cpu.sp + 2 })
  rw [← add_one_add_one]; rfl

-- What an instruction leaves

/-- The fields of State no instruction changes, but for the illegal rows and the fallback. -/
def HostStays (s t : State) : Prop :=
  t.faultMark = s.faultMark ∧ t.refusedMark = s.refusedMark ∧ t.params = s.params ∧ t.calls = s.calls ∧
    t.hook = s.hook ∧ t.start = s.start ∧ t.chain = s.chain ∧ t.pending = s.pending

/-- The fields of the processor record only their own instructions change. -/
def SpecialsStay (u v : Cpu) : Prop :=
  v.i = u.i ∧ v.r = u.r ∧ v.im = u.im ∧ v.halted = u.halted ∧ v.eiDelay = u.eiDelay ∧ v.iff1 = u.iff1 ∧
    v.iff2 = u.iff2 ∧ v.afShadow = u.afShadow ∧ v.bcShadow = u.bcShadow ∧ v.deShadow = u.deShadow ∧
    v.hlShadow = u.hlShadow ∧ v.cycles = u.cycles

/-- `r` is a next state `cost` cycles on, with memory canonical where it was and the host's fields as they were. -/
def Completes (s : State) (cost : Nat) (r : Res) : Prop :=
  ∃ t, r = .next t ∧ t.delta = s.delta + cost ∧ (s.mem.wf = true → t.mem.wf = true) ∧ HostStays s t

/-- The same, with the special registers as they were. -/
def Plain (s : State) (cost : Nat) (r : Res) : Prop :=
  ∃ t, r = .next t ∧ t.delta = s.delta + cost ∧ (s.mem.wf = true → t.mem.wf = true) ∧ HostStays s t ∧
    SpecialsStay s.cpu t.cpu

theorem Plain.completes {s : State} {cost : Nat} {r : Res} (h : Plain s cost r) : Completes s cost r :=
  let ⟨t, h1, h2, h3, h4, _⟩ := h
  ⟨t, h1, h2, h3, h4⟩

theorem HostStays.rfl' (s : State) : HostStays s s := ⟨rfl, rfl, rfl, rfl, rfl, rfl, rfl, rfl⟩

theorem SpecialsStay.rfl' (u : Cpu) : SpecialsStay u u := ⟨rfl, rfl, rfl, rfl, rfl, rfl, rfl, rfl, rfl, rfl, rfl, rfl⟩

theorem HostStays.trans {s t u : State} (h : HostStays s t) (k : HostStays t u) : HostStays s u := by
  obtain ⟨a1, a2, a3, a4, a5, a6, a7, a8⟩ := h
  obtain ⟨b1, b2, b3, b4, b5, b6, b7, b8⟩ := k
  exact ⟨b1.trans a1, b2.trans a2, b3.trans a3, b4.trans a4, b5.trans a5, b6.trans a6, b7.trans a7, b8.trans a8⟩

/-- A part of an instruction: what it leaves between two states. -/
def Part (s t : State) : Prop :=
  t.delta = s.delta ∧ (s.mem.wf = true → t.mem.wf = true) ∧ HostStays s t ∧ SpecialsStay s.cpu t.cpu

namespace Part

theorem refl (s : State) : Part s s := ⟨rfl, id, HostStays.rfl' s, SpecialsStay.rfl' _⟩

theorem trans {s t u : State} (h : Part s t) (k : Part t u) : Part s u := by
  obtain ⟨d1, w1, h1, a1, a2, a3, a4, a5, a6, a7, a8, a9, a10, a11, a12⟩ := h
  obtain ⟨d2, w2, h2, b1, b2, b3, b4, b5, b6, b7, b8, b9, b10, b11, b12⟩ := k
  exact ⟨d2.trans d1, w2 ∘ w1, h1.trans h2, b1.trans a1, b2.trans a2, b3.trans a3, b4.trans a4, b5.trans a5,
    b6.trans a6, b7.trans a7, b8.trans a8, b9.trans a9, b10.trans a10, b11.trans a11, b12.trans a12⟩

theorem onCpu (s : State) {g : Cpu → Cpu} (h : SpecialsStay s.cpu (g s.cpu)) : Part s (s.onCpu g) :=
  ⟨rfl, id, HostStays.rfl' s, h⟩

theorem memRead (s : State) (a : Word) : Part s (s.memRead a).2 :=
  ⟨rfl, wf_memRead a, HostStays.rfl' s, SpecialsStay.rfl' _⟩

theorem memWrite (s : State) (a : Word) (v : Byte) : Part s (s.memWrite a v) :=
  ⟨rfl, wf_memWrite a v, HostStays.rfl' s, SpecialsStay.rfl' _⟩

theorem memRead16 (s : State) (a : Word) : Part s (s.memRead16 a).2 := (memRead s a).trans (memRead _ (a + 1))

theorem memWrite16 (s : State) (a v : Word) : Part s (s.memWrite16 a v) := (memWrite s a _).trans (memWrite _ _ _)

theorem draw (s : State) : Part s s.draw.2 := ⟨rfl, id, HostStays.rfl' s, SpecialsStay.rfl' _⟩

theorem portRead (s : State) (p : Word) : Part s (s.portRead p).2 := by
  unfold State.portRead
  split <;> exact ⟨rfl, id, ⟨rfl, rfl, rfl, rfl, rfl, rfl, rfl, rfl⟩, SpecialsStay.rfl' _⟩

theorem portWrite (s : State) (p : Word) (v : Byte) : Part s (s.portWrite p v) :=
  ⟨rfl, id, HostStays.rfl' s, SpecialsStay.rfl' _⟩

theorem push (s : State) (v : Word) : Part s (s.push v) :=
  ⟨rfl, wf_push v, HostStays.rfl' s, SpecialsStay.rfl' _⟩

theorem pop (s : State) : Part s s.pop.2 := ⟨rfl, wf_pop, HostStays.rfl' s, SpecialsStay.rfl' _⟩

theorem jump (s : State) (a : Word) : Part s (s.jump a) := ⟨rfl, id, HostStays.rfl' s, SpecialsStay.rfl' _⟩

theorem call (s : State) (a : Word) : Part s (s.call a) := (push s _).trans (jump _ a)

theorem popPc (s : State) : Part s s.popPc := (pop s).trans (jump _ _)

theorem read (p : Place) (s : State) : Part s (p.read s).2 := by
  cases p <;> first | exact memRead s _ | exact refl s

theorem write (p : Place) (v : Byte) (s : State) : Part s (p.write v s) := by
  cases p with
  | reg r => exact onCpu s (by cases r <;> exact SpecialsStay.rfl' s.cpu)
  | xyHigh x => exact onCpu s (by cases x <;> exact SpecialsStay.rfl' s.cpu)
  | xyLow x => exact onCpu s (by cases x <;> exact SpecialsStay.rfl' s.cpu)
  | atHl => exact memWrite s _ v
  | indexed x d => exact memWrite s _ v

/-- A part followed by `done`. -/
theorem done {s t : State} (h : Part s t) (k : Nat) : Plain s k (t.done k) :=
  ⟨t.charge k, rfl, by rw [State.charge_delta, h.1], h.2.1, h.2.2.1, h.2.2.2⟩

end Part

-- Operands (R122)

@[simp] theorem Place.read_cpu (p : Place) (s : State) : (p.read s).2.cpu = s.cpu := by cases p <;> rfl

/-- An operand that is a register or a half is read without an access. -/
theorem Place.read_register (p : Place) (s : State) (h : p ≠ .atHl) (h' : ∀ x d, p ≠ .indexed x d) :
    (p.read s).2 = s := by
  cases p with
  | atHl => exact absurd rfl h
  | indexed x d => exact absurd rfl (h' x d)
  | reg _ | xyHigh _ | xyLow _ => rfl

-- The shapes of instruction

theorem moveByte_plain (dst src : Place) (k : Nat) (s : State) : Plain s k (moveByte dst src k s) :=
  ((Part.read src s).trans (Part.write dst _ _)).done k

theorem setByte_plain (dst : Place) (n : Byte) (k : Nat) (s : State) : Plain s k (setByte dst n k s) :=
  (Part.write dst n s).done k

theorem loadA_plain (a : Word) (k : Nat) (s : State) : Plain s k (loadA a k s) :=
  ((Part.memRead s a).trans (Part.onCpu _ (SpecialsStay.rfl' _))).done k

theorem storeA_plain (a : Word) (k : Nat) (s : State) : Plain s k (storeA a k s) := (Part.memWrite s a _).done k

theorem loadAFrom_plain (v : Byte) (k : Nat) (s : State) : Plain s k (loadAFrom v k s) :=
  (Part.onCpu s (SpecialsStay.rfl' s.cpu)).done k

theorem aluValue_plain (op : AluOp) (v : Byte) (k : Nat) (s : State) : Plain s k (aluValue op v k s) :=
  (Part.onCpu s (SpecialsStay.rfl' s.cpu)).done k

theorem aluPlace_plain (op : AluOp) (p : Place) (k : Nat) (s : State) : Plain s k (aluPlace op p k s) :=
  ((Part.read p s).trans (Part.onCpu _ (SpecialsStay.rfl' _))).done k

theorem onA_plain (f : Byte → Flags → Byte × Flags) (k : Nat) (s : State) : Plain s k (onA f k s) :=
  (Part.onCpu s (SpecialsStay.rfl' s.cpu)).done k

theorem modify_plain (f : Byte → Flags → Byte × Flags) (p : Place) (k : Nat) (s : State) :
    Plain s k (modify f p k s) :=
  (((Part.read p s).trans (Part.onCpu _ (SpecialsStay.rfl' (p.read s).2.cpu))).trans (Part.write p _ _)).done k

theorem modifyKeep_plain (f : Byte → Byte) (p : Place) (k : Nat) (s : State) : Plain s k (modifyKeep f p k s) :=
  ((Part.read p s).trans (Part.write p _ _)).done k

theorem setR8_specials (u : Cpu) (r : R8) (v : Byte) : SpecialsStay u (u.setR8 r v) := by
  cases r <;> exact SpecialsStay.rfl' u

theorem modifyCopy_plain (f : Byte → Flags → Byte × Flags) (x : Xy) (d : Byte) (r : R8) (s : State) :
    Plain s 23 (modifyCopy f x d r s) :=
  (((Part.read (.indexed x d) s).trans (Part.write (.indexed x d) _ _)).trans
    (Part.onCpu _ (by cases r <;> exact SpecialsStay.rfl' _))).done 23

theorem modifyKeepCopy_plain (f : Byte → Byte) (x : Xy) (d : Byte) (r : R8) (s : State) :
    Plain s 23 (modifyKeepCopy f x d r s) :=
  (((Part.read (.indexed x d) s).trans (Part.write (.indexed x d) _ _)).trans
    (Part.onCpu _ (setR8_specials _ r _))).done 23

theorem testMemBit_plain (b : BitVec 3) (p : Place) (k : Nat) (s : State) : Plain s k (testMemBit b p k s) :=
  (((Part.read p s).trans (Part.draw _)).trans (Part.onCpu _ (SpecialsStay.rfl' _))).done k

theorem Part.blockLd (d : Word) (s : State) : Part s (Machine.blockLd d s) :=
  ((memRead s _).trans (memWrite _ _ _)).trans (onCpu _ (SpecialsStay.rfl' _))

theorem Part.blockCp (d : Word) (s : State) : Part s (Machine.blockCp d s) :=
  (memRead s _).trans (onCpu _ (SpecialsStay.rfl' _))

theorem Part.blockIn (d : Word) (s : State) : Part s (Machine.blockIn d s) :=
  (((portRead s _).trans (memWrite _ _ _)).trans (draw _)).trans (onCpu _ (SpecialsStay.rfl' _))

theorem Part.blockOut (d : Word) (s : State) : Part s (Machine.blockOut d s) :=
  ((((memRead s _).trans (onCpu _ (SpecialsStay.rfl' _))).trans (portWrite _ _ _)).trans (draw _)).trans
    (onCpu _ (SpecialsStay.rfl' _))

/-- A repeating instruction is its step, and where it continues PC is back at the ED prefix, 5 cycles later. -/
theorem repeatWhile_plain {s t : State} (h : Part s t) (c : Bool) :
    Plain s (if c then 21 else 16) (repeatWhile c t) := by
  cases c
  · exact h.done 16
  · exact (h.trans (Part.onCpu _ (SpecialsStay.rfl' t.cpu))).done 21

theorem onHl_plain (f : Word → Word → Flags → Word × Flags) (v : Word) (k : Nat) (s : State) :
    Plain s k (onHl f v k s) :=
  (Part.onCpu s (SpecialsStay.rfl' s.cpu)).done k

theorem setXy_specials (u : Cpu) (x : Xy) (v : Word) : SpecialsStay u (u.setXy x v) := by
  cases x <;> exact SpecialsStay.rfl' u

theorem setRp_specials (u : Cpu) (p : Rp) (v : Word) : SpecialsStay u (u.setRp p v) := by
  cases p <;> exact SpecialsStay.rfl' u

theorem setRp2_specials (u : Cpu) (p : Rp2) (v : Word) : SpecialsStay u (u.setRp2 p v) := by
  cases p <;> exact SpecialsStay.rfl' u

theorem onXy_plain (f : Word → Word → Flags → Word × Flags) (x : Xy) (v : Word) (k : Nat) (s : State) :
    Plain s k (onXy f x v k s) :=
  (Part.onCpu s (setXy_specials s.cpu x _)).done k

theorem cpuOnly_plain {g : Cpu → Cpu} (k : Nat) {s : State} (h : SpecialsStay s.cpu (g s.cpu)) :
    Plain s k (cpuOnly g k s) :=
  (Part.onCpu s h).done k

/-- A change of the processor record alone, special registers included. -/
theorem cpuOnly_completes (g : Cpu → Cpu) (k : Nat) (s : State) : Completes s k (cpuOnly g k s) :=
  ⟨_, rfl, rfl, id, HostStays.rfl' s⟩

theorem loadWord_plain {put : Cpu → Word → Cpu} (hp : ∀ u v, SpecialsStay u (put u v)) (nn : Word) (k : Nat)
    (s : State) : Plain s k (loadWord put nn k s) :=
  ((Part.memRead16 s nn).trans (Part.onCpu _ (hp _ _))).done k

theorem storeWord_plain (nn v : Word) (k : Nat) (s : State) : Plain s k (storeWord nn v k s) :=
  (Part.memWrite16 s nn v).done k

theorem popTo_plain {put : Cpu → Word → Cpu} (hp : ∀ u v, SpecialsStay u (put u v)) (k : Nat) (s : State) :
    Plain s k (popTo put k s) :=
  ((Part.pop s).trans (Part.onCpu _ (hp _ _))).done k

theorem exchangeTop_plain {put : Cpu → Word → Cpu} (hp : ∀ u v, SpecialsStay u (put u v)) (v : Word) (k : Nat)
    (s : State) : Plain s k (exchangeTop v put k s) :=
  (((Part.memRead16 s _).trans (Part.memWrite16 _ _ v)).trans (Part.onCpu _ (hp _ _))).done k

/-- A conditional transfer: the part at `k` when taken, nothing at `k'` otherwise. -/
theorem ite_done_plain (s : State) {t : State} (h : Part s t) (c : Bool) (k k' : Nat) :
    Plain s (if c then k else k') (if c then t.done k else s.done k') := by
  cases c
  · exact (Part.refl s).done k'
  · exact h.done k

/-- The returns from an interrupt leave IFF1 as IFF2 is, and otherwise what RET leaves. -/
theorem returnFromInterrupt_completes (s : State) (k : Nat) : Completes s k (s.returnFromInterrupt.done k) := by
  obtain ⟨t, ht, h⟩ := (Part.popPc s).done k
  cases ht
  exact ⟨_, rfl, h.1, h.2.1, h.2.2.1⟩

end Sys2Proof.Machine
end

