-- ==== Sys2Proof/Laws/Exec.lean ====
section
/-! SUPPORT. What every instruction leaves: `exec` completes, and all but fourteen kinds of instruction leave the
special registers and what belongs to the host. -/

namespace Sys2Proof.Machine

/-- The instructions with an effect on a special register, the illegal rows and the fallback. -/
def Instr.isSpecial : Instr → Bool
  | .exAfAf | .exx | .di | .ei | .illegalEd70 | .illegalEd71 | .im0 | .im1 | .im2 | .ldIA | .ldRA | .halt | .retn | .reti | .illegalEd _ | .xyFallback _ _ => true
  | _ => false

theorem djnz_plain (e : Byte) (s : State) : ∃ k, Plain s k (execDjnz e s) := by
  have h : Part s (s.onCpu fun u => { u with b := u.b - 1 }) := Part.onCpu s (SpecialsStay.rfl' s.cpu)
  show ∃ k, Plain s k (if s.cpu.b - 1 = 0 then (s.onCpu _).done 8 else (State.jump (s.onCpu _) _).done 13)
  split
  · exact ⟨8, h.done 8⟩
  · exact ⟨13, (h.trans (Part.jump _ _)).done 13⟩

theorem jpCcNn_plain (cc : Cond) (nn : Word) (s : State) : Plain s 10 (execJpCcNn cc nn s) := by
  unfold execJpCcNn
  split
  · exact (Part.jump s nn).done 10
  · exact (Part.refl s).done 10

theorem inRMc_plain (r : R8) (s : State) : Plain s 12 (execInRMc r s) :=
  ((Part.portRead s _).trans (Part.onCpu _ (by cases r <;> exact SpecialsStay.rfl' _))).done 12

/-- An instruction that is none of the special ones completes and leaves the special registers. -/
theorem exec_plain (i : Instr) (s : State) (h : Instr.isSpecial i = false) : ∃ k, Plain s k (exec i s) := by
  cases i with
  | nop => exact ⟨_, (Part.refl s).done 4⟩
  | ldMbcA => exact ⟨_, storeA_plain s.cpu.bc 7 s⟩
  | ldMdeA => exact ⟨_, storeA_plain s.cpu.de 7 s⟩
  | ldAMbc => exact ⟨_, loadA_plain s.cpu.bc 7 s⟩
  | ldAMde => exact ⟨_, loadA_plain s.cpu.de 7 s⟩
  | incMhl => exact ⟨_, modify_plain inc8 .atHl 11 s⟩
  | decMhl => exact ⟨_, modify_plain dec8 .atHl 11 s⟩
  | ret => exact ⟨_, (Part.popPc s).done 10⟩
  | jpHl => exact ⟨_, (Part.jump s _).done 4⟩
  | ldSpHl =>
    show ∃ k, Plain s k (cpuOnly (fun u => { u with sp := u.hl }) 6 s)
    exact ⟨6, cpuOnly_plain _ (SpecialsStay.rfl' s.cpu)⟩
  | exMspHl =>
    show ∃ k, Plain s k (exchangeTop s.cpu.hl Cpu.setHl 19 s)
    exact ⟨19, exchangeTop_plain (fun u v => setRp_specials u .hl v) _ _ s⟩
  | exDeHl =>
    show ∃ k, Plain s k (cpuOnly (fun u => { u with d := u.h, e := u.l, h := u.d, l := u.e }) 4 s)
    exact ⟨4, cpuOnly_plain _ (SpecialsStay.rfl' s.cpu)⟩
  | ldAI => exact ⟨_, loadAFrom_plain s.cpu.i 9 s⟩
  | ldAR => exact ⟨_, loadAFrom_plain s.cpu.r 9 s⟩
  | rlca => exact ⟨_, onA_plain (rotAFlags .rlc) 4 s⟩
  | rrca => exact ⟨_, onA_plain (rotAFlags .rrc) 4 s⟩
  | rla => exact ⟨_, onA_plain (rotAFlags .rl) 4 s⟩
  | rra => exact ⟨_, onA_plain (rotAFlags .rr) 4 s⟩
  | daa => exact ⟨_, onA_plain Sys2Proof.Machine.daa 4 s⟩
  | cpl => exact ⟨_, onA_plain (fun a g => (~~~a, { g.xy (~~~a) with h := true, n := true })) 4 s⟩
  | scf => exact ⟨_, onA_plain (fun a g => (a, { g.xy a with h := false, n := false, c := true })) 4 s⟩
  | ccf => exact ⟨_, onA_plain (fun a g => (a, { g.xy a with h := g.c, n := false, c := !g.c })) 4 s⟩
  | neg => exact ⟨_, onA_plain (fun a _ => sub8 0 a false) 8 s⟩
  | rrd => exact ⟨_, (((Part.memRead s _).trans (Part.memWrite _ _ _)).trans (Part.onCpu _ (SpecialsStay.rfl' _))).done 18⟩
  | rld => exact ⟨_, (((Part.memRead s _).trans (Part.memWrite _ _ _)).trans (Part.onCpu _ (SpecialsStay.rfl' _))).done 18⟩
  | ldi => exact ⟨_, (Part.blockLd _ s).done 16⟩
  | cpi => exact ⟨_, (Part.blockCp _ s).done 16⟩
  | ini => exact ⟨_, (Part.blockIn _ s).done 16⟩
  | outi => exact ⟨_, (Part.blockOut _ s).done 16⟩
  | ldd => exact ⟨_, (Part.blockLd _ s).done 16⟩
  | cpd => exact ⟨_, (Part.blockCp _ s).done 16⟩
  | ind => exact ⟨_, (Part.blockIn _ s).done 16⟩
  | outd => exact ⟨_, (Part.blockOut _ s).done 16⟩
  | ldir => exact ⟨_, repeatWhile_plain (Part.blockLd _ s) _⟩
  | cpir => exact ⟨_, repeatWhile_plain (Part.blockCp _ s) _⟩
  | inir => exact ⟨_, repeatWhile_plain (Part.blockIn _ s) _⟩
  | otir => exact ⟨_, repeatWhile_plain (Part.blockOut _ s) _⟩
  | lddr => exact ⟨_, repeatWhile_plain (Part.blockLd _ s) _⟩
  | cpdr => exact ⟨_, repeatWhile_plain (Part.blockCp _ s) _⟩
  | indr => exact ⟨_, repeatWhile_plain (Part.blockIn _ s) _⟩
  | otdr => exact ⟨_, repeatWhile_plain (Part.blockOut _ s) _⟩
  | djnz e => exact djnz_plain e s
  | jr _ => exact ⟨_, (Part.jump s _).done 12⟩
  | jrCc _ _ => exact ⟨_, ite_done_plain s (Part.jump s _) _ 12 7⟩
  | ldRpNn p nn =>
    show ∃ k, Plain s k (cpuOnly (fun u => u.setRp p nn) 10 s)
    exact ⟨10, cpuOnly_plain _ (setRp_specials s.cpu _ _)⟩
  | addHlRp p => exact ⟨_, onHl_plain add16 (s.cpu.rp p) 11 s⟩
  | ldMnnHl nn => exact ⟨_, storeWord_plain nn s.cpu.hl 16 s⟩
  | ldMnnA nn => exact ⟨_, storeA_plain nn 13 s⟩
  | ldHlMnn nn =>
    show ∃ k, Plain s k (loadWord Cpu.setHl nn 16 s)
    exact ⟨16, loadWord_plain (fun u v => setRp_specials u .hl v) _ _ s⟩
  | ldAMnn nn => exact ⟨_, loadA_plain nn 13 s⟩
  | incRp p =>
    show ∃ k, Plain s k (cpuOnly (fun u => u.setRp p (u.rp p + 1)) 6 s)
    exact ⟨6, cpuOnly_plain _ (setRp_specials s.cpu _ _)⟩
  | decRp p =>
    show ∃ k, Plain s k (cpuOnly (fun u => u.setRp p (u.rp p - 1)) 6 s)
    exact ⟨6, cpuOnly_plain _ (setRp_specials s.cpu _ _)⟩
  | incR r => exact ⟨_, modify_plain inc8 (.reg r) 4 s⟩
  | decR r => exact ⟨_, modify_plain dec8 (.reg r) 4 s⟩
  | ldRN r n => exact ⟨_, setByte_plain (.reg r) n 7 s⟩
  | ldMhlN n => exact ⟨_, setByte_plain .atHl n 10 s⟩
  | ldRR r r' => exact ⟨_, moveByte_plain (.reg r) (.reg r') 4 s⟩
  | ldRMhl r => exact ⟨_, moveByte_plain (.reg r) .atHl 7 s⟩
  | ldMhlR r => exact ⟨_, moveByte_plain .atHl (.reg r) 7 s⟩
  | addAR r => exact ⟨_, aluPlace_plain .add (.reg r) 4 s⟩
  | addAMhl => exact ⟨_, aluPlace_plain .add .atHl 7 s⟩
  | addAN n => exact ⟨_, aluValue_plain .add n 7 s⟩
  | addAXyh x => exact ⟨_, aluPlace_plain .add (.xyHigh x) 8 s⟩
  | addAXyl x => exact ⟨_, aluPlace_plain .add (.xyLow x) 8 s⟩
  | addAMxyd x d => exact ⟨_, aluPlace_plain .add (.indexed x d) 19 s⟩
  | adcAR r => exact ⟨_, aluPlace_plain .adc (.reg r) 4 s⟩
  | adcAMhl => exact ⟨_, aluPlace_plain .adc .atHl 7 s⟩
  | adcAN n => exact ⟨_, aluValue_plain .adc n 7 s⟩
  | adcAXyh x => exact ⟨_, aluPlace_plain .adc (.xyHigh x) 8 s⟩
  | adcAXyl x => exact ⟨_, aluPlace_plain .adc (.xyLow x) 8 s⟩
  | adcAMxyd x d => exact ⟨_, aluPlace_plain .adc (.indexed x d) 19 s⟩
  | subR r => exact ⟨_, aluPlace_plain .sub (.reg r) 4 s⟩
  | subMhl => exact ⟨_, aluPlace_plain .sub .atHl 7 s⟩
  | subN n => exact ⟨_, aluValue_plain .sub n 7 s⟩
  | subXyh x => exact ⟨_, aluPlace_plain .sub (.xyHigh x) 8 s⟩
  | subXyl x => exact ⟨_, aluPlace_plain .sub (.xyLow x) 8 s⟩
  | subMxyd x d => exact ⟨_, aluPlace_plain .sub (.indexed x d) 19 s⟩
  | sbcAR r => exact ⟨_, aluPlace_plain .sbc (.reg r) 4 s⟩
  | sbcAMhl => exact ⟨_, aluPlace_plain .sbc .atHl 7 s⟩
  | sbcAN n => exact ⟨_, aluValue_plain .sbc n 7 s⟩
  | sbcAXyh x => exact ⟨_, aluPlace_plain .sbc (.xyHigh x) 8 s⟩
  | sbcAXyl x => exact ⟨_, aluPlace_plain .sbc (.xyLow x) 8 s⟩
  | sbcAMxyd x d => exact ⟨_, aluPlace_plain .sbc (.indexed x d) 19 s⟩
  | andR r => exact ⟨_, aluPlace_plain .and (.reg r) 4 s⟩
  | andMhl => exact ⟨_, aluPlace_plain .and .atHl 7 s⟩
  | andN n => exact ⟨_, aluValue_plain .and n 7 s⟩
  | andXyh x => exact ⟨_, aluPlace_plain .and (.xyHigh x) 8 s⟩
  | andXyl x => exact ⟨_, aluPlace_plain .and (.xyLow x) 8 s⟩
  | andMxyd x d => exact ⟨_, aluPlace_plain .and (.indexed x d) 19 s⟩
  | xorR r => exact ⟨_, aluPlace_plain .xor (.reg r) 4 s⟩
  | xorMhl => exact ⟨_, aluPlace_plain .xor .atHl 7 s⟩
  | xorN n => exact ⟨_, aluValue_plain .xor n 7 s⟩
  | xorXyh x => exact ⟨_, aluPlace_plain .xor (.xyHigh x) 8 s⟩
  | xorXyl x => exact ⟨_, aluPlace_plain .xor (.xyLow x) 8 s⟩
  | xorMxyd x d => exact ⟨_, aluPlace_plain .xor (.indexed x d) 19 s⟩
  | orR r => exact ⟨_, aluPlace_plain .or (.reg r) 4 s⟩
  | orMhl => exact ⟨_, aluPlace_plain .or .atHl 7 s⟩
  | orN n => exact ⟨_, aluValue_plain .or n 7 s⟩
  | orXyh x => exact ⟨_, aluPlace_plain .or (.xyHigh x) 8 s⟩
  | orXyl x => exact ⟨_, aluPlace_plain .or (.xyLow x) 8 s⟩
  | orMxyd x d => exact ⟨_, aluPlace_plain .or (.indexed x d) 19 s⟩
  | cpR r => exact ⟨_, aluPlace_plain .cp (.reg r) 4 s⟩
  | cpMhl => exact ⟨_, aluPlace_plain .cp .atHl 7 s⟩
  | cpN n => exact ⟨_, aluValue_plain .cp n 7 s⟩
  | cpXyh x => exact ⟨_, aluPlace_plain .cp (.xyHigh x) 8 s⟩
  | cpXyl x => exact ⟨_, aluPlace_plain .cp (.xyLow x) 8 s⟩
  | cpMxyd x d => exact ⟨_, aluPlace_plain .cp (.indexed x d) 19 s⟩
  | retCc _ => exact ⟨_, ite_done_plain s (Part.popPc s) _ 11 5⟩
  | popRp2 p =>
    show ∃ k, Plain s k (popTo (fun u v => u.setRp2 p v) 10 s)
    exact ⟨10, popTo_plain (fun u v => setRp2_specials u _ v) _ s⟩
  | jpCcNn _ _ => exact ⟨_, jpCcNn_plain _ _ s⟩
  | jpNn _ => exact ⟨_, (Part.jump s _).done 10⟩
  | outMnA _ => exact ⟨_, (Part.portWrite s _ _).done 11⟩
  | inAMn _ => exact ⟨_, ((Part.portRead s _).trans (Part.onCpu _ (SpecialsStay.rfl' _))).done 11⟩
  | callCcNn _ _ => exact ⟨_, ite_done_plain s (Part.call s _) _ 17 10⟩
  | pushRp2 _ => exact ⟨_, (Part.push s _).done 11⟩
  | callNn _ => exact ⟨_, (Part.call s _).done 17⟩
  | rstP _ => exact ⟨_, (Part.call s _).done 11⟩
  | rlcR r => exact ⟨_, modify_plain (rotFlags .rlc) (.reg r) 8 s⟩
  | rlcMhl => exact ⟨_, modify_plain (rotFlags .rlc) .atHl 15 s⟩
  | rlcMxydR x d r => exact ⟨_, modifyCopy_plain (rotFlags .rlc) x d r s⟩
  | rlcMxyd x d => exact ⟨_, modify_plain (rotFlags .rlc) (.indexed x d) 23 s⟩
  | rrcR r => exact ⟨_, modify_plain (rotFlags .rrc) (.reg r) 8 s⟩
  | rrcMhl => exact ⟨_, modify_plain (rotFlags .rrc) .atHl 15 s⟩
  | rrcMxydR x d r => exact ⟨_, modifyCopy_plain (rotFlags .rrc) x d r s⟩
  | rrcMxyd x d => exact ⟨_, modify_plain (rotFlags .rrc) (.indexed x d) 23 s⟩
  | rlR r => exact ⟨_, modify_plain (rotFlags .rl) (.reg r) 8 s⟩
  | rlMhl => exact ⟨_, modify_plain (rotFlags .rl) .atHl 15 s⟩
  | rlMxydR x d r => exact ⟨_, modifyCopy_plain (rotFlags .rl) x d r s⟩
  | rlMxyd x d => exact ⟨_, modify_plain (rotFlags .rl) (.indexed x d) 23 s⟩
  | rrR r => exact ⟨_, modify_plain (rotFlags .rr) (.reg r) 8 s⟩
  | rrMhl => exact ⟨_, modify_plain (rotFlags .rr) .atHl 15 s⟩
  | rrMxydR x d r => exact ⟨_, modifyCopy_plain (rotFlags .rr) x d r s⟩
  | rrMxyd x d => exact ⟨_, modify_plain (rotFlags .rr) (.indexed x d) 23 s⟩
  | slaR r => exact ⟨_, modify_plain (rotFlags .sla) (.reg r) 8 s⟩
  | slaMhl => exact ⟨_, modify_plain (rotFlags .sla) .atHl 15 s⟩
  | slaMxydR x d r => exact ⟨_, modifyCopy_plain (rotFlags .sla) x d r s⟩
  | slaMxyd x d => exact ⟨_, modify_plain (rotFlags .sla) (.indexed x d) 23 s⟩
  | sraR r => exact ⟨_, modify_plain (rotFlags .sra) (.reg r) 8 s⟩
  | sraMhl => exact ⟨_, modify_plain (rotFlags .sra) .atHl 15 s⟩
  | sraMxydR x d r => exact ⟨_, modifyCopy_plain (rotFlags .sra) x d r s⟩
  | sraMxyd x d => exact ⟨_, modify_plain (rotFlags .sra) (.indexed x d) 23 s⟩
  | sllR r => exact ⟨_, modify_plain (rotFlags .sll) (.reg r) 8 s⟩
  | sllMhl => exact ⟨_, modify_plain (rotFlags .sll) .atHl 15 s⟩
  | sllMxydR x d r => exact ⟨_, modifyCopy_plain (rotFlags .sll) x d r s⟩
  | sllMxyd x d => exact ⟨_, modify_plain (rotFlags .sll) (.indexed x d) 23 s⟩
  | srlR r => exact ⟨_, modify_plain (rotFlags .srl) (.reg r) 8 s⟩
  | srlMhl => exact ⟨_, modify_plain (rotFlags .srl) .atHl 15 s⟩
  | srlMxydR x d r => exact ⟨_, modifyCopy_plain (rotFlags .srl) x d r s⟩
  | srlMxyd x d => exact ⟨_, modify_plain (rotFlags .srl) (.indexed x d) 23 s⟩
  | bitBR b r =>
    show ∃ k, Plain s k (cpuOnly (fun u =>
    u.setFlags (bitFlags b (u.r8 r) ((u.r8 r).getLsbD 5) ((u.r8 r).getLsbD 3) u.flags)) 8 s)
    exact ⟨8, cpuOnly_plain _ (SpecialsStay.rfl' s.cpu)⟩
  | bitBMhl b => exact ⟨_, testMemBit_plain b .atHl 12 s⟩
  | resBR b r => exact ⟨_, modifyKeep_plain (resBit b) (.reg r) 8 s⟩
  | resBMhl b => exact ⟨_, modifyKeep_plain (resBit b) .atHl 15 s⟩
  | setBR b r => exact ⟨_, modifyKeep_plain (setBit b) (.reg r) 8 s⟩
  | setBMhl b => exact ⟨_, modifyKeep_plain (setBit b) .atHl 15 s⟩
  | bitBMxyd x d b _z => exact ⟨_, testMemBit_plain b (.indexed x d) 20 s⟩
  | resBMxydR x d b r => exact ⟨_, modifyKeepCopy_plain (resBit b) x d r s⟩
  | resBMxyd x d b => exact ⟨_, modifyKeep_plain (resBit b) (.indexed x d) 23 s⟩
  | setBMxydR x d b r => exact ⟨_, modifyKeepCopy_plain (setBit b) x d r s⟩
  | setBMxyd x d b => exact ⟨_, modifyKeep_plain (setBit b) (.indexed x d) 23 s⟩
  | inRMc _ => exact ⟨_, inRMc_plain _ s⟩
  | outMcR _ => exact ⟨_, (Part.portWrite s _ _).done 12⟩
  | sbcHlRp p => exact ⟨_, onHl_plain (fun a b g => sbc16 a b g.c) (s.cpu.rp p) 15 s⟩
  | adcHlRp p => exact ⟨_, onHl_plain (fun a b g => adc16 a b g.c) (s.cpu.rp p) 15 s⟩
  | ldMnnRp p nn => exact ⟨_, storeWord_plain nn (s.cpu.rp p) 20 s⟩
  | ldRpMnn p nn =>
    show ∃ k, Plain s k (loadWord (fun u v => u.setRp p v) nn 20 s)
    exact ⟨20, loadWord_plain (fun u v => setRp_specials u _ v) _ _ s⟩
  | addXyPp x p => exact ⟨_, onXy_plain add16 x (s.cpu.pp x p) 15 s⟩
  | ldXyNn x nn =>
    show ∃ k, Plain s k (cpuOnly (fun u => u.setXy x nn) 14 s)
    exact ⟨14, cpuOnly_plain _ (setXy_specials s.cpu _ _)⟩
  | ldMnnXy x nn => exact ⟨_, storeWord_plain nn (s.cpu.xy x) 20 s⟩
  | incXy x =>
    show ∃ k, Plain s k (cpuOnly (fun u => u.setXy x (u.xy x + 1)) 10 s)
    exact ⟨10, cpuOnly_plain _ (setXy_specials s.cpu _ _)⟩
  | decXy x =>
    show ∃ k, Plain s k (cpuOnly (fun u => u.setXy x (u.xy x - 1)) 10 s)
    exact ⟨10, cpuOnly_plain _ (setXy_specials s.cpu _ _)⟩
  | ldXyMnn x nn =>
    show ∃ k, Plain s k (loadWord (fun u v => u.setXy x v) nn 20 s)
    exact ⟨20, loadWord_plain (fun u v => setXy_specials u _ v) _ _ s⟩
  | incXyh x => exact ⟨_, modify_plain inc8 (.xyHigh x) 8 s⟩
  | incXyl x => exact ⟨_, modify_plain inc8 (.xyLow x) 8 s⟩
  | incMxyd x d => exact ⟨_, modify_plain inc8 (.indexed x d) 23 s⟩
  | decXyh x => exact ⟨_, modify_plain dec8 (.xyHigh x) 8 s⟩
  | decXyl x => exact ⟨_, modify_plain dec8 (.xyLow x) 8 s⟩
  | decMxyd x d => exact ⟨_, modify_plain dec8 (.indexed x d) 23 s⟩
  | ldXyhN x n => exact ⟨_, setByte_plain (.xyHigh x) n 11 s⟩
  | ldXylN x n => exact ⟨_, setByte_plain (.xyLow x) n 11 s⟩
  | ldMxydN x d n => exact ⟨_, setByte_plain (.indexed x d) n 19 s⟩
  | ldBMxyd x d => exact ⟨_, moveByte_plain (.reg .b) (.indexed x d) 19 s⟩
  | ldMxydB x d => exact ⟨_, moveByte_plain (.indexed x d) (.reg .b) 19 s⟩
  | ldCMxyd x d => exact ⟨_, moveByte_plain (.reg .c) (.indexed x d) 19 s⟩
  | ldMxydC x d => exact ⟨_, moveByte_plain (.indexed x d) (.reg .c) 19 s⟩
  | ldDMxyd x d => exact ⟨_, moveByte_plain (.reg .d) (.indexed x d) 19 s⟩
  | ldMxydD x d => exact ⟨_, moveByte_plain (.indexed x d) (.reg .d) 19 s⟩
  | ldEMxyd x d => exact ⟨_, moveByte_plain (.reg .e) (.indexed x d) 19 s⟩
  | ldMxydE x d => exact ⟨_, moveByte_plain (.indexed x d) (.reg .e) 19 s⟩
  | ldHMxyd x d => exact ⟨_, moveByte_plain (.reg .h) (.indexed x d) 19 s⟩
  | ldMxydH x d => exact ⟨_, moveByte_plain (.indexed x d) (.reg .h) 19 s⟩
  | ldLMxyd x d => exact ⟨_, moveByte_plain (.reg .l) (.indexed x d) 19 s⟩
  | ldMxydL x d => exact ⟨_, moveByte_plain (.indexed x d) (.reg .l) 19 s⟩
  | ldAMxyd x d => exact ⟨_, moveByte_plain (.reg .a) (.indexed x d) 19 s⟩
  | ldMxydA x d => exact ⟨_, moveByte_plain (.indexed x d) (.reg .a) 19 s⟩
  | ldBXyh x => exact ⟨_, moveByte_plain (.reg .b) (.xyHigh x) 8 s⟩
  | ldXyhB x => exact ⟨_, moveByte_plain (.xyHigh x) (.reg .b) 8 s⟩
  | ldBXyl x => exact ⟨_, moveByte_plain (.reg .b) (.xyLow x) 8 s⟩
  | ldXylB x => exact ⟨_, moveByte_plain (.xyLow x) (.reg .b) 8 s⟩
  | ldCXyh x => exact ⟨_, moveByte_plain (.reg .c) (.xyHigh x) 8 s⟩
  | ldXyhC x => exact ⟨_, moveByte_plain (.xyHigh x) (.reg .c) 8 s⟩
  | ldCXyl x => exact ⟨_, moveByte_plain (.reg .c) (.xyLow x) 8 s⟩
  | ldXylC x => exact ⟨_, moveByte_plain (.xyLow x) (.reg .c) 8 s⟩
  | ldDXyh x => exact ⟨_, moveByte_plain (.reg .d) (.xyHigh x) 8 s⟩
  | ldXyhD x => exact ⟨_, moveByte_plain (.xyHigh x) (.reg .d) 8 s⟩
  | ldDXyl x => exact ⟨_, moveByte_plain (.reg .d) (.xyLow x) 8 s⟩
  | ldXylD x => exact ⟨_, moveByte_plain (.xyLow x) (.reg .d) 8 s⟩
  | ldEXyh x => exact ⟨_, moveByte_plain (.reg .e) (.xyHigh x) 8 s⟩
  | ldXyhE x => exact ⟨_, moveByte_plain (.xyHigh x) (.reg .e) 8 s⟩
  | ldEXyl x => exact ⟨_, moveByte_plain (.reg .e) (.xyLow x) 8 s⟩
  | ldXylE x => exact ⟨_, moveByte_plain (.xyLow x) (.reg .e) 8 s⟩
  | ldAXyh x => exact ⟨_, moveByte_plain (.reg .a) (.xyHigh x) 8 s⟩
  | ldXyhA x => exact ⟨_, moveByte_plain (.xyHigh x) (.reg .a) 8 s⟩
  | ldAXyl x => exact ⟨_, moveByte_plain (.reg .a) (.xyLow x) 8 s⟩
  | ldXylA x => exact ⟨_, moveByte_plain (.xyLow x) (.reg .a) 8 s⟩
  | ldXyhXyh x => exact ⟨_, moveByte_plain (.xyHigh x) (.xyHigh x) 8 s⟩
  | ldXyhXyl x => exact ⟨_, moveByte_plain (.xyHigh x) (.xyLow x) 8 s⟩
  | ldXylXyh x => exact ⟨_, moveByte_plain (.xyLow x) (.xyHigh x) 8 s⟩
  | ldXylXyl x => exact ⟨_, moveByte_plain (.xyLow x) (.xyLow x) 8 s⟩
  | popXy x =>
    show ∃ k, Plain s k (popTo (fun u v => u.setXy x v) 14 s)
    exact ⟨14, popTo_plain (fun u v => setXy_specials u _ v) _ s⟩
  | exMspXy x =>
    show ∃ k, Plain s k (exchangeTop (s.cpu.xy x) (fun u v => u.setXy x v) 23 s)
    exact ⟨23, exchangeTop_plain (fun u v => setXy_specials u _ v) _ _ s⟩
  | pushXy _ => exact ⟨_, (Part.push s _).done 15⟩
  | jpXy _ => exact ⟨_, (Part.jump s _).done 8⟩
  | ldSpXy x =>
    show ∃ k, Plain s k (cpuOnly (fun u => { u with sp := u.xy x }) 10 s)
    exact ⟨10, cpuOnly_plain _ (SpecialsStay.rfl' s.cpu)⟩
  | exAfAf => exact Bool.noConfusion h
  | exx => exact Bool.noConfusion h
  | di => exact Bool.noConfusion h
  | ei => exact Bool.noConfusion h
  | illegalEd70 => exact Bool.noConfusion h
  | illegalEd71 => exact Bool.noConfusion h
  | im0 => exact Bool.noConfusion h
  | im1 => exact Bool.noConfusion h
  | im2 => exact Bool.noConfusion h
  | ldIA => exact Bool.noConfusion h
  | ldRA => exact Bool.noConfusion h
  | halt => exact Bool.noConfusion h
  | retn => exact Bool.noConfusion h
  | reti => exact Bool.noConfusion h
  | illegalEd _ => exact Bool.noConfusion h
  | xyFallback _ _ => exact Bool.noConfusion h

theorem exec_plain_next (i : Instr) (s : State) (h : Instr.isSpecial i = false) : ∃ t, exec i s = .next t :=
  let ⟨_, t, ht, _⟩ := exec_plain i s h
  ⟨t, ht⟩

/-- Every instruction answers a next state. -/
theorem exec_next (i : Instr) (s : State) : ∃ t, exec i s = .next t := by
  cases hs : Instr.isSpecial i
  · exact exec_plain_next i s hs
  · unfold Instr.isSpecial at hs
    split at hs <;> first | exact absurd hs Bool.false_ne_true | exact ⟨_, rfl⟩

/-- But for the illegal rows and the fallback, an instruction completes and leaves what belongs to the host. -/
theorem exec_completes (i : Instr) (s : State) (h : ∀ op, i ≠ .illegalEd op) (h70 : i ≠ .illegalEd70)
    (h71 : i ≠ .illegalEd71) (hf : ∀ x op, i ≠ .xyFallback x op) : ∃ k, Completes s k (exec i s) := by
  cases hs : Instr.isSpecial i
  · exact (exec_plain i s hs).imp fun _ hp => hp.completes
  · unfold Instr.isSpecial at hs
    split at hs
    · exact ⟨4, _, rfl, rfl, id, HostStays.rfl' s⟩
    · exact ⟨4, _, rfl, rfl, id, HostStays.rfl' s⟩
    · exact ⟨4, _, rfl, rfl, id, HostStays.rfl' s⟩
    · exact ⟨4, _, rfl, rfl, id, HostStays.rfl' s⟩
    · exact absurd rfl h70
    · exact absurd rfl h71
    · exact ⟨8, _, rfl, rfl, id, HostStays.rfl' s⟩
    · exact ⟨8, _, rfl, rfl, id, HostStays.rfl' s⟩
    · exact ⟨8, _, rfl, rfl, id, HostStays.rfl' s⟩
    · exact ⟨9, _, rfl, rfl, id, HostStays.rfl' s⟩
    · exact ⟨9, _, rfl, rfl, id, HostStays.rfl' s⟩
    · exact ⟨4, _, rfl, rfl, id, HostStays.rfl' s⟩
    · exact ⟨14, returnFromInterrupt_completes s 14⟩
    · exact ⟨14, returnFromInterrupt_completes s 14⟩
    · exact absurd rfl (h _)
    · exact absurd rfl (hf _ _)
    · exact absurd hs Bool.false_ne_true

end Sys2Proof.Machine
end

