-- ==== Sys2Proof/Laws/Fetch.lean ====
section
/-! SUPPORT. Fetching an instruction: the bytes fetched tell its length (R118), bytes past it play no part, and a
fetch that is answered the bytes of an instruction gives that instruction. -/

namespace Sys2Proof

-- The length and the instruction depend on the instruction's own bytes alone

theorem decodeXyCb_length (x : Xy) (d op : Byte) : (decodeXyCb x d op).2 = 4 := by
  unfold decodeXyCb
  split <;> rfl

theorem decodeEd_length (op lo hi lo' hi' : Byte) : (decodeEd op lo hi).2 = (decodeEd op lo' hi').2 := by
  unfold decodeEd
  simp only
  repeat' split
  all_goals rfl

theorem decodeEd_short {op lo hi : Byte} (h : (decodeEd op lo hi).2 ≤ 3) (lo' hi' : Byte) :
    decodeEd op lo hi = decodeEd op lo' hi' := by
  revert h
  unfold decodeEd
  simp only
  repeat' split
  all_goals first | exact fun _ => rfl | exact fun h => absurd (show 4 ≤ 3 from h) (by decide)

theorem decodeIndexed_length (x : Xy) (op b2 b3 c2 c3 : Byte) :
    (decodeIndexed x op b2 b3).map (·.2) = (decodeIndexed x op c2 c3).map (·.2) := by
  unfold decodeIndexed
  simp only
  repeat' split
  all_goals rfl

theorem decodeXy_length (x : Xy) (op b2 b3 c2 c3 : Byte) : (decodeXy x op b2 b3).2 = (decodeXy x op c2 c3).2 := by
  unfold decodeXy
  split
  · rw [decodeXyCb_length, decodeXyCb_length]
  · have h := decodeIndexed_length x op b2 b3 c2 c3
    cases h1 : decodeIndexed x op b2 b3 <;> cases h2 : decodeIndexed x op c2 c3 <;> simp_all

theorem decodeXy_two {x : Xy} {op b2 b3 : Byte} (h : (decodeXy x op b2 b3).2 ≤ 2) (c2 c3 : Byte) :
    decodeXy x op b2 b3 = decodeXy x op c2 c3 := by
  revert h
  unfold decodeXy
  split
  · rw [decodeXyCb_length]
    exact fun h => absurd h (by decide)
  · unfold decodeIndexed
    simp only
    repeat' split
    all_goals first
      | exact fun _ => rfl
      | exact fun h => absurd (show 4 ≤ 2 from h) (by decide)
      | exact fun h => absurd (show 3 ≤ 2 from h) (by decide)

theorem decodeXy_three {x : Xy} {op b2 b3 : Byte} (h : (decodeXy x op b2 b3).2 ≤ 3) (c3 : Byte) :
    decodeXy x op b2 b3 = decodeXy x op b2 c3 := by
  revert h
  unfold decodeXy
  split
  · rw [decodeXyCb_length]
    exact fun h => absurd h (by decide)
  · unfold decodeIndexed
    simp only
    repeat' split
    all_goals first | exact fun _ => rfl | exact fun h => absurd (show 4 ≤ 3 from h) (by decide)

theorem isPrefix_of_fields (b : Byte) (h0 : fieldX b ≠ 0) (h1 : fieldX b ≠ 1) (h2 : fieldX b ≠ 2)
    (h : (fieldZ b).toNat = 3 ∧ (fieldY b).toNat = 1 ∨
      (fieldZ b).toNat = 5 ∧ (fieldY b).toNat % 2 = 1 ∧ (fieldY b).toNat ≠ 1) :
    Machine.isPrefix b = true := by
  revert b
  decide

/-- An unprefixed instruction: its length depends on the first byte, and no byte past its length plays a part. -/
theorem decodeBytes_unprefixed {b0 : Byte} (h : Machine.isPrefix b0 = false) (b1 b2 b3 c1 c2 c3 : Byte) :
    (decodeBytes b0 b1 b2 b3).2 = (decodeBytes b0 c1 c2 c3).2 ∧
      ((decodeBytes b0 b1 b2 b3).2 ≤ 1 → decodeBytes b0 b1 b2 b3 = decodeBytes b0 c1 c2 c3) ∧
      ((decodeBytes b0 b1 b2 b3).2 ≤ 2 → decodeBytes b0 b1 b2 b3 = decodeBytes b0 b1 c2 c3) ∧
      (decodeBytes b0 b1 b2 b3).2 ≤ 3 ∧ decodeBytes b0 b1 b2 b3 = decodeBytes b0 b1 b2 c3 := by
  have key := isPrefix_of_fields b0
  rw [h] at key
  unfold decodeBytes decodeQuarter0 decodeQuarter1 decodeQuarter2 decodeQuarter3
  simp only
  repeat' split
  all_goals first
    | exact ⟨rfl, fun _ => rfl, fun _ => rfl, show 1 ≤ 3 by decide, rfl⟩
    | exact ⟨rfl, fun h => absurd (show 2 ≤ 1 from h) (by decide), fun _ => rfl, show 2 ≤ 3 by decide, rfl⟩
    | exact ⟨rfl, fun h => absurd (show 3 ≤ 1 from h) (by decide), fun h => absurd (show 3 ≤ 2 from h) (by decide),
        show 3 ≤ 3 by decide, rfl⟩
    | simp_all

theorem decodeCb_length (op : Byte) : (decodeCb op).2 = 2 := by
  unfold decodeCb
  split <;> rfl

theorem decodeXy_bounds (x : Xy) (op b2 b3 : Byte) :
    2 ≤ (decodeXy x op b2 b3).2 ∧ (decodeXy x op b2 b3).2 ≤ 4 := by
  unfold decodeXy
  split
  · rw [decodeXyCb_length]
    decide
  · unfold decodeIndexed
    simp only
    repeat' split
    all_goals first
      | exact show 2 ≤ 2 ∧ 2 ≤ 4 by decide
      | exact show 2 ≤ 3 ∧ 3 ≤ 4 by decide
      | exact show 2 ≤ 4 ∧ 4 ≤ 4 by decide
      | skip
    cases ldHalves x (fieldY op) (fieldZ op) <;> exact show 2 ≤ 2 ∧ 2 ≤ 4 by decide

theorem decodeEd_bounds (op lo hi : Byte) : 2 ≤ (decodeEd op lo hi).2 ∧ (decodeEd op lo hi).2 ≤ 4 := by
  unfold decodeEd
  simp only
  repeat' split
  all_goals first | exact show 2 ≤ 2 ∧ 2 ≤ 4 by decide | exact show 2 ≤ 4 ∧ 4 ≤ 4 by decide

/-- A prefixed instruction: its length depends on its first two bytes, and no byte past its length plays a part. -/
theorem decodeBytes_prefixed {b0 : Byte} (h : Machine.isPrefix b0 = true) (b1 b2 b3 c2 c3 : Byte) :
    (decodeBytes b0 b1 b2 b3).2 = (decodeBytes b0 b1 c2 c3).2 ∧
      (2 ≤ (decodeBytes b0 b1 b2 b3).2 ∧ (decodeBytes b0 b1 b2 b3).2 ≤ 4) ∧
      ((decodeBytes b0 b1 b2 b3).2 ≤ 2 → decodeBytes b0 b1 b2 b3 = decodeBytes b0 b1 c2 c3) ∧
      ((decodeBytes b0 b1 b2 b3).2 ≤ 3 → decodeBytes b0 b1 b2 b3 = decodeBytes b0 b1 b2 c3) := by
  have hb : b0 = 0xCB ∨ b0 = 0xDD ∨ b0 = 0xED ∨ b0 = 0xFD := by simpa [Machine.isPrefix, or_assoc] using h
  rcases hb with rfl | rfl | rfl | rfl
  · exact ⟨rfl, ⟨(decodeCb_length b1).ge, (decodeCb_length b1).le.trans (by decide)⟩, fun _ => rfl, fun _ => rfl⟩
  · exact ⟨decodeXy_length .ix b1 b2 b3 c2 c3, decodeXy_bounds .ix b1 b2 b3, fun k => decodeXy_two k c2 c3,
      fun k => decodeXy_three k c3⟩
  · exact ⟨decodeEd_length b1 b2 b3 c2 c3, decodeEd_bounds b1 b2 b3,
      fun k => decodeEd_short (k.trans (by decide)) c2 c3, fun k => decodeEd_short k b2 c3⟩
  · exact ⟨decodeXy_length .iy b1 b2 b3 c2 c3, decodeXy_bounds .iy b1 b2 b3, fun k => decodeXy_two k c2 c3,
      fun k => decodeXy_three k c3⟩

namespace Machine.State

-- What a fetch changes

@[simp] theorem fetchOp_fst (s : State) : s.fetchOp.1 = s.answerAt s.cpu.pc := rfl
@[simp] theorem fetchOp_cpu (s : State) :
    s.fetchOp.2.cpu = { s.cpu with pc := s.cpu.pc + 1, r := incR s.cpu.r } := rfl
@[simp] theorem fetchByte_fst (s : State) : s.fetchByte.1 = s.answerAt s.cpu.pc := rfl
@[simp] theorem fetchByte_cpu (s : State) : s.fetchByte.2.cpu = { s.cpu with pc := s.cpu.pc + 1 } := rfl

theorem fetchBytes_succ (s : State) (n : Nat) :
    s.fetchBytes (n + 1) = (s.answerAt s.cpu.pc :: (s.fetchByte.2.fetchBytes n).1, (s.fetchByte.2.fetchBytes n).2) :=
  rfl

theorem fetchBytes_length (s : State) (n : Nat) : (s.fetchBytes n).1.length = n := by
  induction n generalizing s with
  | zero => rfl
  | succ n ih => simp [fetchBytes_succ, ih]

theorem add_one_add (w : Word) (n : Nat) : w + 1 + BitVec.ofNat 16 n = w + BitVec.ofNat 16 (n + 1) := by
  rw [BitVec.add_assoc, Nat.add_comm n 1, BitVec.ofNat_add]
  rfl

/-- Operand fetches move PC past the bytes and leave the rest of the record (R114). -/
theorem fetchBytes_cpu (s : State) (n : Nat) :
    (s.fetchBytes n).2.cpu = { s.cpu with pc := s.cpu.pc + BitVec.ofNat 16 n } := by
  induction n generalizing s with
  | zero => simp [fetchBytes]
  | succ n ih => rw [fetchBytes_succ, ih, fetchByte_cpu, ← add_one_add]

/-- What a fetch leaves: the delta, the canonical memory, and what belongs to the host but for memory's answers. -/
def FetchKeeps (s t : State) : Prop :=
  t.delta = s.delta ∧ (s.mem.wf = true → t.mem.wf = true) ∧ HostStays s t ∧ t.portIn = s.portIn ∧ t.draws = s.draws

theorem FetchKeeps.trans {s t u : State} (h : FetchKeeps s t) (k : FetchKeeps t u) : FetchKeeps s u :=
  ⟨k.1.trans h.1, k.2.1 ∘ h.2.1, h.2.2.1.trans k.2.2.1, k.2.2.2.1.trans h.2.2.2.1, k.2.2.2.2.trans h.2.2.2.2⟩

theorem fetchOp_keeps (s : State) : FetchKeeps s s.fetchOp.2 :=
  ⟨rfl, wf_memRead s.cpu.pc, HostStays.rfl' s, rfl, rfl⟩

theorem fetchByte_keeps (s : State) : FetchKeeps s s.fetchByte.2 :=
  ⟨rfl, wf_memRead s.cpu.pc, HostStays.rfl' s, rfl, rfl⟩

theorem fetchBytes_keeps (s : State) (n : Nat) : FetchKeeps s (s.fetchBytes n).2 := by
  induction n generalizing s with
  | zero => exact ⟨rfl, id, HostStays.rfl' s, rfl, rfl⟩
  | succ n ih => exact (fetchByte_keeps s).trans (ih _)

theorem fetchInstr_keeps (s : State) (op : Byte) : FetchKeeps s (s.fetchInstr op).2 := by
  unfold fetchInstr
  split
  · exact (fetchOp_keeps s).trans (fetchBytes_keeps _ _)
  · exact fetchBytes_keeps s _

-- The instruction a fetch gives

/-- The list of a fetch of `n` bytes read at its places is the list's own bytes. -/
theorem eq_take {l : List Byte} {n : Nat} {b c d : Byte} (h : l = [b, c, d].take n) :
    (1 ≤ n → l.getD 0 0 = b) ∧ (2 ≤ n → l.getD 1 0 = c) ∧ (3 ≤ n → l.getD 2 0 = d) := by
  subst h
  match n with
  | 0 => exact ⟨by omega, by omega, by omega⟩
  | 1 => exact ⟨fun _ => rfl, by omega, by omega⟩
  | 2 => exact ⟨fun _ => rfl, fun _ => rfl, by omega⟩
  | n + 3 => simp

/-- A fetch behind an unprefixed first byte that is answered an instruction's bytes gives the instruction. -/
theorem fetchInstr_unprefixed {s : State} {op b1 b2 b3 : Byte} {i : Instr} {n : Nat} (h : isPrefix op = false)
    (hd : decodeBytes op b1 b2 b3 = (i, n)) (hb : (s.fetchBytes (n - 1)).1 = [b1, b2, b3].take (n - 1)) :
    s.fetchInstr op = (i, (s.fetchBytes (n - 1)).2) := by
  have hn : (decodeBytes op b1 b2 b3).2 = n := by rw [hd]
  have hl : (decodeBytes op 0 0 0).2 = n := by rw [← (decodeBytes_unprefixed h b1 b2 b3 0 0 0).1, hn]
  unfold fetchInstr
  simp only [h, hl, Bool.false_eq_true, if_false]
  obtain ⟨h1, h2, h3⟩ := eq_take hb
  generalize (s.fetchBytes (n - 1)).1 = l at h1 h2 h3
  obtain ⟨-, k1, k2, k3, k4⟩ := decodeBytes_unprefixed h b1 b2 b3 (l.getD 0 0) (l.getD 1 0) (l.getD 2 0)
  rw [hn] at k1 k2 k3
  refine Prod.ext ?_ rfl
  show (decodeBytes op (l.getD 0 0) (l.getD 1 0) (l.getD 2 0)).1 = i
  rcases Nat.lt_or_ge 1 n with g1 | g1
  · rcases Nat.lt_or_ge 2 n with g2 | g2
    · rw [h1 (by omega), h2 (by omega), ← k4, hd]
    · rw [h1 (by omega), ← k2 g2, hd]
  · rw [← k1 g1, hd]

/-- The same behind a prefix, whose next byte is an opcode fetch. -/
theorem fetchInstr_prefixed {s : State} {op b1 b2 b3 : Byte} {i : Instr} {n : Nat} (h : isPrefix op = true)
    (hd : decodeBytes op b1 b2 b3 = (i, n)) (h1 : s.fetchOp.1 = b1)
    (hb : (s.fetchOp.2.fetchBytes (n - 2)).1 = [b2, b3].take (n - 2)) :
    s.fetchInstr op = (i, (s.fetchOp.2.fetchBytes (n - 2)).2) := by
  have hn : (decodeBytes op b1 b2 b3).2 = n := by rw [hd]
  have hl : (decodeBytes op b1 0 0).2 = n := by rw [← (decodeBytes_prefixed h b1 b2 b3 0 0).1, hn]
  have ht : [b2, b3].take (n - 2) = [b2, b3, 0].take (n - 2) := by
    have := (decodeBytes_prefixed h b1 b2 b3 0 0).2.1.2
    rw [hn] at this
    obtain e | e | e : n - 2 = 0 ∨ n - 2 = 1 ∨ n - 2 = 2 := by omega
    all_goals rw [e]; rfl
  unfold fetchInstr
  simp only [h, h1, hl, if_true]
  obtain ⟨h2, h3, -⟩ := eq_take (hb.trans ht)
  generalize (s.fetchOp.2.fetchBytes (n - 2)).1 = l at h2 h3
  obtain ⟨-, k, k2, k3⟩ := decodeBytes_prefixed h b1 b2 b3 (l.getD 0 0) (l.getD 1 0)
  rw [hn] at k k2 k3
  refine Prod.ext ?_ rfl
  show (decodeBytes op b1 (l.getD 0 0) (l.getD 1 0)).1 = i
  rcases Nat.lt_or_ge 2 n with g2 | g2
  · rcases Nat.lt_or_ge 3 n with g3 | g3
    · rw [h2 (by omega), h3 (by omega), hd]
    · rw [h2 (by omega), ← k3 g3, hd]
  · rw [← k2 g2, hd]

end Machine.State

end Sys2Proof
end

