-- ==== Sys2Proof/Laws/PerInstr.lean ====
section
/-! SUPPORT. Statements about every instruction as syntax, one lemma per constructor. Family `EncodedLength`: an
instruction has one to four bytes (spec/30_encoding.md R118). -/

namespace Sys2Proof.Laws.EncodedLength

/-- The length of an instruction in bytes lies between 1 and 4. -/
def Statement (i : Instr) : Prop := 1 ≤ i.length ∧ i.length ≤ 4

/-- An instruction whose encoding has one to four bytes. -/
theorem of_length {i : Instr} (n : Nat) (h : i.length = n + 1) (hn : n ≤ 3) : Statement i := by
  unfold Statement
  omega

theorem nop : Statement (.nop) := of_length 0 rfl (by decide)
theorem exAfAf : Statement (.exAfAf) := of_length 0 rfl (by decide)
theorem ldMbcA : Statement (.ldMbcA) := of_length 0 rfl (by decide)
theorem ldMdeA : Statement (.ldMdeA) := of_length 0 rfl (by decide)
theorem ldAMbc : Statement (.ldAMbc) := of_length 0 rfl (by decide)
theorem ldAMde : Statement (.ldAMde) := of_length 0 rfl (by decide)
theorem incMhl : Statement (.incMhl) := of_length 0 rfl (by decide)
theorem decMhl : Statement (.decMhl) := of_length 0 rfl (by decide)
theorem ret : Statement (.ret) := of_length 0 rfl (by decide)
theorem exx : Statement (.exx) := of_length 0 rfl (by decide)
theorem jpHl : Statement (.jpHl) := of_length 0 rfl (by decide)
theorem ldSpHl : Statement (.ldSpHl) := of_length 0 rfl (by decide)
theorem exMspHl : Statement (.exMspHl) := of_length 0 rfl (by decide)
theorem exDeHl : Statement (.exDeHl) := of_length 0 rfl (by decide)
theorem di : Statement (.di) := of_length 0 rfl (by decide)
theorem ei : Statement (.ei) := of_length 0 rfl (by decide)
theorem illegalEd70 : Statement (.illegalEd70) := of_length 1 rfl (by decide)
theorem illegalEd71 : Statement (.illegalEd71) := of_length 1 rfl (by decide)
theorem im0 : Statement (.im0) := of_length 1 rfl (by decide)
theorem im1 : Statement (.im1) := of_length 1 rfl (by decide)
theorem im2 : Statement (.im2) := of_length 1 rfl (by decide)
theorem ldIA : Statement (.ldIA) := of_length 1 rfl (by decide)
theorem ldRA : Statement (.ldRA) := of_length 1 rfl (by decide)
theorem ldAI : Statement (.ldAI) := of_length 1 rfl (by decide)
theorem ldAR : Statement (.ldAR) := of_length 1 rfl (by decide)
theorem rlca : Statement (.rlca) := of_length 0 rfl (by decide)
theorem rrca : Statement (.rrca) := of_length 0 rfl (by decide)
theorem rla : Statement (.rla) := of_length 0 rfl (by decide)
theorem rra : Statement (.rra) := of_length 0 rfl (by decide)
theorem daa : Statement (.daa) := of_length 0 rfl (by decide)
theorem cpl : Statement (.cpl) := of_length 0 rfl (by decide)
theorem scf : Statement (.scf) := of_length 0 rfl (by decide)
theorem ccf : Statement (.ccf) := of_length 0 rfl (by decide)
theorem halt : Statement (.halt) := of_length 0 rfl (by decide)
theorem neg : Statement (.neg) := of_length 1 rfl (by decide)
theorem retn : Statement (.retn) := of_length 1 rfl (by decide)
theorem reti : Statement (.reti) := of_length 1 rfl (by decide)
theorem rrd : Statement (.rrd) := of_length 1 rfl (by decide)
theorem rld : Statement (.rld) := of_length 1 rfl (by decide)
theorem ldi : Statement (.ldi) := of_length 1 rfl (by decide)
theorem cpi : Statement (.cpi) := of_length 1 rfl (by decide)
theorem ini : Statement (.ini) := of_length 1 rfl (by decide)
theorem outi : Statement (.outi) := of_length 1 rfl (by decide)
theorem ldd : Statement (.ldd) := of_length 1 rfl (by decide)
theorem cpd : Statement (.cpd) := of_length 1 rfl (by decide)
theorem ind : Statement (.ind) := of_length 1 rfl (by decide)
theorem outd : Statement (.outd) := of_length 1 rfl (by decide)
theorem ldir : Statement (.ldir) := of_length 1 rfl (by decide)
theorem cpir : Statement (.cpir) := of_length 1 rfl (by decide)
theorem inir : Statement (.inir) := of_length 1 rfl (by decide)
theorem otir : Statement (.otir) := of_length 1 rfl (by decide)
theorem lddr : Statement (.lddr) := of_length 1 rfl (by decide)
theorem cpdr : Statement (.cpdr) := of_length 1 rfl (by decide)
theorem indr : Statement (.indr) := of_length 1 rfl (by decide)
theorem otdr : Statement (.otdr) := of_length 1 rfl (by decide)
theorem djnz (e : Byte) : Statement (.djnz e) := of_length 1 rfl (by decide)
theorem jr (e : Byte) : Statement (.jr e) := of_length 1 rfl (by decide)
theorem jrCc (cc : Cond) (e : Byte) : Statement (.jrCc cc e) := of_length 1 rfl (by decide)
theorem ldRpNn (p : Rp) (nn : Word) : Statement (.ldRpNn p nn) := of_length 2 rfl (by decide)
theorem addHlRp (p : Rp) : Statement (.addHlRp p) := of_length 0 rfl (by decide)
theorem ldMnnHl (nn : Word) : Statement (.ldMnnHl nn) := of_length 2 rfl (by decide)
theorem ldMnnA (nn : Word) : Statement (.ldMnnA nn) := of_length 2 rfl (by decide)
theorem ldHlMnn (nn : Word) : Statement (.ldHlMnn nn) := of_length 2 rfl (by decide)
theorem ldAMnn (nn : Word) : Statement (.ldAMnn nn) := of_length 2 rfl (by decide)
theorem incRp (p : Rp) : Statement (.incRp p) := of_length 0 rfl (by decide)
theorem decRp (p : Rp) : Statement (.decRp p) := of_length 0 rfl (by decide)
theorem incR (r : R8) : Statement (.incR r) := of_length 0 rfl (by decide)
theorem decR (r : R8) : Statement (.decR r) := of_length 0 rfl (by decide)
theorem ldRN (r : R8) (n : Byte) : Statement (.ldRN r n) := of_length 1 rfl (by decide)
theorem ldMhlN (n : Byte) : Statement (.ldMhlN n) := of_length 1 rfl (by decide)
theorem ldRR (r : R8) (r' : R8) : Statement (.ldRR r r') := of_length 0 rfl (by decide)
theorem ldRMhl (r : R8) : Statement (.ldRMhl r) := of_length 0 rfl (by decide)
theorem ldMhlR (r : R8) : Statement (.ldMhlR r) := of_length 0 rfl (by decide)
theorem addAR (r : R8) : Statement (.addAR r) := of_length 0 rfl (by decide)
theorem addAMhl : Statement (.addAMhl) := of_length 0 rfl (by decide)
theorem addAN (n : Byte) : Statement (.addAN n) := of_length 1 rfl (by decide)
theorem addAXyh (x : Xy) : Statement (.addAXyh x) := of_length 1 rfl (by decide)
theorem addAXyl (x : Xy) : Statement (.addAXyl x) := of_length 1 rfl (by decide)
theorem addAMxyd (x : Xy) (d : Byte) : Statement (.addAMxyd x d) := of_length 2 rfl (by decide)
theorem adcAR (r : R8) : Statement (.adcAR r) := of_length 0 rfl (by decide)
theorem adcAMhl : Statement (.adcAMhl) := of_length 0 rfl (by decide)
theorem adcAN (n : Byte) : Statement (.adcAN n) := of_length 1 rfl (by decide)
theorem adcAXyh (x : Xy) : Statement (.adcAXyh x) := of_length 1 rfl (by decide)
theorem adcAXyl (x : Xy) : Statement (.adcAXyl x) := of_length 1 rfl (by decide)
theorem adcAMxyd (x : Xy) (d : Byte) : Statement (.adcAMxyd x d) := of_length 2 rfl (by decide)
theorem subR (r : R8) : Statement (.subR r) := of_length 0 rfl (by decide)
theorem subMhl : Statement (.subMhl) := of_length 0 rfl (by decide)
theorem subN (n : Byte) : Statement (.subN n) := of_length 1 rfl (by decide)
theorem subXyh (x : Xy) : Statement (.subXyh x) := of_length 1 rfl (by decide)
theorem subXyl (x : Xy) : Statement (.subXyl x) := of_length 1 rfl (by decide)
theorem subMxyd (x : Xy) (d : Byte) : Statement (.subMxyd x d) := of_length 2 rfl (by decide)
theorem sbcAR (r : R8) : Statement (.sbcAR r) := of_length 0 rfl (by decide)
theorem sbcAMhl : Statement (.sbcAMhl) := of_length 0 rfl (by decide)
theorem sbcAN (n : Byte) : Statement (.sbcAN n) := of_length 1 rfl (by decide)
theorem sbcAXyh (x : Xy) : Statement (.sbcAXyh x) := of_length 1 rfl (by decide)
theorem sbcAXyl (x : Xy) : Statement (.sbcAXyl x) := of_length 1 rfl (by decide)
theorem sbcAMxyd (x : Xy) (d : Byte) : Statement (.sbcAMxyd x d) := of_length 2 rfl (by decide)
theorem andR (r : R8) : Statement (.andR r) := of_length 0 rfl (by decide)
theorem andMhl : Statement (.andMhl) := of_length 0 rfl (by decide)
theorem andN (n : Byte) : Statement (.andN n) := of_length 1 rfl (by decide)
theorem andXyh (x : Xy) : Statement (.andXyh x) := of_length 1 rfl (by decide)
theorem andXyl (x : Xy) : Statement (.andXyl x) := of_length 1 rfl (by decide)
theorem andMxyd (x : Xy) (d : Byte) : Statement (.andMxyd x d) := of_length 2 rfl (by decide)
theorem xorR (r : R8) : Statement (.xorR r) := of_length 0 rfl (by decide)
theorem xorMhl : Statement (.xorMhl) := of_length 0 rfl (by decide)
theorem xorN (n : Byte) : Statement (.xorN n) := of_length 1 rfl (by decide)
theorem xorXyh (x : Xy) : Statement (.xorXyh x) := of_length 1 rfl (by decide)
theorem xorXyl (x : Xy) : Statement (.xorXyl x) := of_length 1 rfl (by decide)
theorem xorMxyd (x : Xy) (d : Byte) : Statement (.xorMxyd x d) := of_length 2 rfl (by decide)
theorem orR (r : R8) : Statement (.orR r) := of_length 0 rfl (by decide)
theorem orMhl : Statement (.orMhl) := of_length 0 rfl (by decide)
theorem orN (n : Byte) : Statement (.orN n) := of_length 1 rfl (by decide)
theorem orXyh (x : Xy) : Statement (.orXyh x) := of_length 1 rfl (by decide)
theorem orXyl (x : Xy) : Statement (.orXyl x) := of_length 1 rfl (by decide)
theorem orMxyd (x : Xy) (d : Byte) : Statement (.orMxyd x d) := of_length 2 rfl (by decide)
theorem cpR (r : R8) : Statement (.cpR r) := of_length 0 rfl (by decide)
theorem cpMhl : Statement (.cpMhl) := of_length 0 rfl (by decide)
theorem cpN (n : Byte) : Statement (.cpN n) := of_length 1 rfl (by decide)
theorem cpXyh (x : Xy) : Statement (.cpXyh x) := of_length 1 rfl (by decide)
theorem cpXyl (x : Xy) : Statement (.cpXyl x) := of_length 1 rfl (by decide)
theorem cpMxyd (x : Xy) (d : Byte) : Statement (.cpMxyd x d) := of_length 2 rfl (by decide)
theorem retCc (cc : Cond) : Statement (.retCc cc) := of_length 0 rfl (by decide)
theorem popRp2 (p : Rp2) : Statement (.popRp2 p) := of_length 0 rfl (by decide)
theorem jpCcNn (cc : Cond) (nn : Word) : Statement (.jpCcNn cc nn) := of_length 2 rfl (by decide)
theorem jpNn (nn : Word) : Statement (.jpNn nn) := of_length 2 rfl (by decide)
theorem outMnA (n : Byte) : Statement (.outMnA n) := of_length 1 rfl (by decide)
theorem inAMn (n : Byte) : Statement (.inAMn n) := of_length 1 rfl (by decide)
theorem callCcNn (cc : Cond) (nn : Word) : Statement (.callCcNn cc nn) := of_length 2 rfl (by decide)
theorem pushRp2 (p : Rp2) : Statement (.pushRp2 p) := of_length 0 rfl (by decide)
theorem callNn (nn : Word) : Statement (.callNn nn) := of_length 2 rfl (by decide)
theorem rstP (p : BitVec 3) : Statement (.rstP p) := of_length 0 rfl (by decide)
theorem rlcR (r : R8) : Statement (.rlcR r) := of_length 1 rfl (by decide)
theorem rlcMhl : Statement (.rlcMhl) := of_length 1 rfl (by decide)
theorem rlcMxydR (x : Xy) (d : Byte) (r : R8) : Statement (.rlcMxydR x d r) := of_length 3 rfl (by decide)
theorem rlcMxyd (x : Xy) (d : Byte) : Statement (.rlcMxyd x d) := of_length 3 rfl (by decide)
theorem rrcR (r : R8) : Statement (.rrcR r) := of_length 1 rfl (by decide)
theorem rrcMhl : Statement (.rrcMhl) := of_length 1 rfl (by decide)
theorem rrcMxydR (x : Xy) (d : Byte) (r : R8) : Statement (.rrcMxydR x d r) := of_length 3 rfl (by decide)
theorem rrcMxyd (x : Xy) (d : Byte) : Statement (.rrcMxyd x d) := of_length 3 rfl (by decide)
theorem rlR (r : R8) : Statement (.rlR r) := of_length 1 rfl (by decide)
theorem rlMhl : Statement (.rlMhl) := of_length 1 rfl (by decide)
theorem rlMxydR (x : Xy) (d : Byte) (r : R8) : Statement (.rlMxydR x d r) := of_length 3 rfl (by decide)
theorem rlMxyd (x : Xy) (d : Byte) : Statement (.rlMxyd x d) := of_length 3 rfl (by decide)
theorem rrR (r : R8) : Statement (.rrR r) := of_length 1 rfl (by decide)
theorem rrMhl : Statement (.rrMhl) := of_length 1 rfl (by decide)
theorem rrMxydR (x : Xy) (d : Byte) (r : R8) : Statement (.rrMxydR x d r) := of_length 3 rfl (by decide)
theorem rrMxyd (x : Xy) (d : Byte) : Statement (.rrMxyd x d) := of_length 3 rfl (by decide)
theorem slaR (r : R8) : Statement (.slaR r) := of_length 1 rfl (by decide)
theorem slaMhl : Statement (.slaMhl) := of_length 1 rfl (by decide)
theorem slaMxydR (x : Xy) (d : Byte) (r : R8) : Statement (.slaMxydR x d r) := of_length 3 rfl (by decide)
theorem slaMxyd (x : Xy) (d : Byte) : Statement (.slaMxyd x d) := of_length 3 rfl (by decide)
theorem sraR (r : R8) : Statement (.sraR r) := of_length 1 rfl (by decide)
theorem sraMhl : Statement (.sraMhl) := of_length 1 rfl (by decide)
theorem sraMxydR (x : Xy) (d : Byte) (r : R8) : Statement (.sraMxydR x d r) := of_length 3 rfl (by decide)
theorem sraMxyd (x : Xy) (d : Byte) : Statement (.sraMxyd x d) := of_length 3 rfl (by decide)
theorem sllR (r : R8) : Statement (.sllR r) := of_length 1 rfl (by decide)
theorem sllMhl : Statement (.sllMhl) := of_length 1 rfl (by decide)
theorem sllMxydR (x : Xy) (d : Byte) (r : R8) : Statement (.sllMxydR x d r) := of_length 3 rfl (by decide)
theorem sllMxyd (x : Xy) (d : Byte) : Statement (.sllMxyd x d) := of_length 3 rfl (by decide)
theorem srlR (r : R8) : Statement (.srlR r) := of_length 1 rfl (by decide)
theorem srlMhl : Statement (.srlMhl) := of_length 1 rfl (by decide)
theorem srlMxydR (x : Xy) (d : Byte) (r : R8) : Statement (.srlMxydR x d r) := of_length 3 rfl (by decide)
theorem srlMxyd (x : Xy) (d : Byte) : Statement (.srlMxyd x d) := of_length 3 rfl (by decide)
theorem bitBR (b : BitVec 3) (r : R8) : Statement (.bitBR b r) := of_length 1 rfl (by decide)
theorem bitBMhl (b : BitVec 3) : Statement (.bitBMhl b) := of_length 1 rfl (by decide)
theorem resBR (b : BitVec 3) (r : R8) : Statement (.resBR b r) := of_length 1 rfl (by decide)
theorem resBMhl (b : BitVec 3) : Statement (.resBMhl b) := of_length 1 rfl (by decide)
theorem setBR (b : BitVec 3) (r : R8) : Statement (.setBR b r) := of_length 1 rfl (by decide)
theorem setBMhl (b : BitVec 3) : Statement (.setBMhl b) := of_length 1 rfl (by decide)
theorem bitBMxyd (x : Xy) (d : Byte) (b : BitVec 3) (z : BitVec 3) : Statement (.bitBMxyd x d b z) := of_length 3 rfl (by decide)
theorem resBMxydR (x : Xy) (d : Byte) (b : BitVec 3) (r : R8) : Statement (.resBMxydR x d b r) := of_length 3 rfl (by decide)
theorem resBMxyd (x : Xy) (d : Byte) (b : BitVec 3) : Statement (.resBMxyd x d b) := of_length 3 rfl (by decide)
theorem setBMxydR (x : Xy) (d : Byte) (b : BitVec 3) (r : R8) : Statement (.setBMxydR x d b r) := of_length 3 rfl (by decide)
theorem setBMxyd (x : Xy) (d : Byte) (b : BitVec 3) : Statement (.setBMxyd x d b) := of_length 3 rfl (by decide)
theorem illegalEd (op : Byte) : Statement (.illegalEd op) := of_length 1 rfl (by decide)
theorem inRMc (r : R8) : Statement (.inRMc r) := of_length 1 rfl (by decide)
theorem outMcR (r : R8) : Statement (.outMcR r) := of_length 1 rfl (by decide)
theorem sbcHlRp (p : Rp) : Statement (.sbcHlRp p) := of_length 1 rfl (by decide)
theorem adcHlRp (p : Rp) : Statement (.adcHlRp p) := of_length 1 rfl (by decide)
theorem ldMnnRp (p : Rp) (nn : Word) : Statement (.ldMnnRp p nn) := of_length 3 rfl (by decide)
theorem ldRpMnn (p : Rp) (nn : Word) : Statement (.ldRpMnn p nn) := of_length 3 rfl (by decide)
theorem xyFallback (x : Xy) (op : Byte) : Statement (.xyFallback x op) := of_length 1 rfl (by decide)
theorem addXyPp (x : Xy) (p : Pp) : Statement (.addXyPp x p) := of_length 1 rfl (by decide)
theorem ldXyNn (x : Xy) (nn : Word) : Statement (.ldXyNn x nn) := of_length 3 rfl (by decide)
theorem ldMnnXy (x : Xy) (nn : Word) : Statement (.ldMnnXy x nn) := of_length 3 rfl (by decide)
theorem incXy (x : Xy) : Statement (.incXy x) := of_length 1 rfl (by decide)
theorem decXy (x : Xy) : Statement (.decXy x) := of_length 1 rfl (by decide)
theorem ldXyMnn (x : Xy) (nn : Word) : Statement (.ldXyMnn x nn) := of_length 3 rfl (by decide)
theorem incXyh (x : Xy) : Statement (.incXyh x) := of_length 1 rfl (by decide)
theorem incXyl (x : Xy) : Statement (.incXyl x) := of_length 1 rfl (by decide)
theorem incMxyd (x : Xy) (d : Byte) : Statement (.incMxyd x d) := of_length 2 rfl (by decide)
theorem decXyh (x : Xy) : Statement (.decXyh x) := of_length 1 rfl (by decide)
theorem decXyl (x : Xy) : Statement (.decXyl x) := of_length 1 rfl (by decide)
theorem decMxyd (x : Xy) (d : Byte) : Statement (.decMxyd x d) := of_length 2 rfl (by decide)
theorem ldXyhN (x : Xy) (n : Byte) : Statement (.ldXyhN x n) := of_length 2 rfl (by decide)
theorem ldXylN (x : Xy) (n : Byte) : Statement (.ldXylN x n) := of_length 2 rfl (by decide)
theorem ldMxydN (x : Xy) (d : Byte) (n : Byte) : Statement (.ldMxydN x d n) := of_length 3 rfl (by decide)
theorem ldBMxyd (x : Xy) (d : Byte) : Statement (.ldBMxyd x d) := of_length 2 rfl (by decide)
theorem ldMxydB (x : Xy) (d : Byte) : Statement (.ldMxydB x d) := of_length 2 rfl (by decide)
theorem ldCMxyd (x : Xy) (d : Byte) : Statement (.ldCMxyd x d) := of_length 2 rfl (by decide)
theorem ldMxydC (x : Xy) (d : Byte) : Statement (.ldMxydC x d) := of_length 2 rfl (by decide)
theorem ldDMxyd (x : Xy) (d : Byte) : Statement (.ldDMxyd x d) := of_length 2 rfl (by decide)
theorem ldMxydD (x : Xy) (d : Byte) : Statement (.ldMxydD x d) := of_length 2 rfl (by decide)
theorem ldEMxyd (x : Xy) (d : Byte) : Statement (.ldEMxyd x d) := of_length 2 rfl (by decide)
theorem ldMxydE (x : Xy) (d : Byte) : Statement (.ldMxydE x d) := of_length 2 rfl (by decide)
theorem ldHMxyd (x : Xy) (d : Byte) : Statement (.ldHMxyd x d) := of_length 2 rfl (by decide)
theorem ldMxydH (x : Xy) (d : Byte) : Statement (.ldMxydH x d) := of_length 2 rfl (by decide)
theorem ldLMxyd (x : Xy) (d : Byte) : Statement (.ldLMxyd x d) := of_length 2 rfl (by decide)
theorem ldMxydL (x : Xy) (d : Byte) : Statement (.ldMxydL x d) := of_length 2 rfl (by decide)
theorem ldAMxyd (x : Xy) (d : Byte) : Statement (.ldAMxyd x d) := of_length 2 rfl (by decide)
theorem ldMxydA (x : Xy) (d : Byte) : Statement (.ldMxydA x d) := of_length 2 rfl (by decide)
theorem ldBXyh (x : Xy) : Statement (.ldBXyh x) := of_length 1 rfl (by decide)
theorem ldXyhB (x : Xy) : Statement (.ldXyhB x) := of_length 1 rfl (by decide)
theorem ldBXyl (x : Xy) : Statement (.ldBXyl x) := of_length 1 rfl (by decide)
theorem ldXylB (x : Xy) : Statement (.ldXylB x) := of_length 1 rfl (by decide)
theorem ldCXyh (x : Xy) : Statement (.ldCXyh x) := of_length 1 rfl (by decide)
theorem ldXyhC (x : Xy) : Statement (.ldXyhC x) := of_length 1 rfl (by decide)
theorem ldCXyl (x : Xy) : Statement (.ldCXyl x) := of_length 1 rfl (by decide)
theorem ldXylC (x : Xy) : Statement (.ldXylC x) := of_length 1 rfl (by decide)
theorem ldDXyh (x : Xy) : Statement (.ldDXyh x) := of_length 1 rfl (by decide)
theorem ldXyhD (x : Xy) : Statement (.ldXyhD x) := of_length 1 rfl (by decide)
theorem ldDXyl (x : Xy) : Statement (.ldDXyl x) := of_length 1 rfl (by decide)
theorem ldXylD (x : Xy) : Statement (.ldXylD x) := of_length 1 rfl (by decide)
theorem ldEXyh (x : Xy) : Statement (.ldEXyh x) := of_length 1 rfl (by decide)
theorem ldXyhE (x : Xy) : Statement (.ldXyhE x) := of_length 1 rfl (by decide)
theorem ldEXyl (x : Xy) : Statement (.ldEXyl x) := of_length 1 rfl (by decide)
theorem ldXylE (x : Xy) : Statement (.ldXylE x) := of_length 1 rfl (by decide)
theorem ldAXyh (x : Xy) : Statement (.ldAXyh x) := of_length 1 rfl (by decide)
theorem ldXyhA (x : Xy) : Statement (.ldXyhA x) := of_length 1 rfl (by decide)
theorem ldAXyl (x : Xy) : Statement (.ldAXyl x) := of_length 1 rfl (by decide)
theorem ldXylA (x : Xy) : Statement (.ldXylA x) := of_length 1 rfl (by decide)
theorem ldXyhXyh (x : Xy) : Statement (.ldXyhXyh x) := of_length 1 rfl (by decide)
theorem ldXyhXyl (x : Xy) : Statement (.ldXyhXyl x) := of_length 1 rfl (by decide)
theorem ldXylXyh (x : Xy) : Statement (.ldXylXyh x) := of_length 1 rfl (by decide)
theorem ldXylXyl (x : Xy) : Statement (.ldXylXyl x) := of_length 1 rfl (by decide)
theorem popXy (x : Xy) : Statement (.popXy x) := of_length 1 rfl (by decide)
theorem exMspXy (x : Xy) : Statement (.exMspXy x) := of_length 1 rfl (by decide)
theorem pushXy (x : Xy) : Statement (.pushXy x) := of_length 1 rfl (by decide)
theorem jpXy (x : Xy) : Statement (.jpXy x) := of_length 1 rfl (by decide)
theorem ldSpXy (x : Xy) : Statement (.ldSpXy x) := of_length 1 rfl (by decide)

end Sys2Proof.Laws.EncodedLength
end

