-- ==== Sys2Proof/Tests/Slice0.lean ====
section
/-! SUPPORT. The model's own tests: the well-formedness smoke test, a decoded word for every constructor, written from
the match, mask and field columns of spec/opcode_table.json, steps from spec/95_test_vectors.md, and for every
statement with hypotheses a state and operands that meet them. -/

namespace Sys2Proof.Tests

open Sys2Proof.Machine Sys2Proof.Claims

-- Well-formedness: an ill-formed term for each check, and a neighbour that is well-formed

theorem test_wf_jr_refuses_po : Instr.wellFormed (.jrCc .po 0x05) = false := by decide
theorem test_wf_jr_admits_c : Instr.wellFormed (.jrCc .c 0x05) = true := by decide
-- 0x44 is NEG, 0x70 has a row of its own
theorem test_wf_illegal_refuses_neg : Instr.wellFormed (.illegalEd 0x44) = false := by decide
theorem test_wf_illegal_refuses_70 : Instr.wellFormed (.illegalEd 0x70) = false := by decide
theorem test_wf_illegal_admits_77 : Instr.wellFormed (.illegalEd 0x77) = true := by decide
-- 0x21 has the indexed form LD xy,nn, 0xCB leads to the indexed bit group
theorem test_wf_fallback_refuses_21 : Instr.wellFormed (.xyFallback .ix 0x21) = false := by decide
theorem test_wf_fallback_refuses_cb : Instr.wellFormed (.xyFallback .iy 0xCB) = false := by decide
theorem test_wf_fallback_admits_eb : Instr.wellFormed (.xyFallback .ix 0xEB) = true := by decide

-- Decoding: one word for every row of the table, its operand codes by spec/10_state.md R39, R48, R49

/-- Whether the bytes decode to the instruction with nothing left, it is well-formed, and encodes to the bytes. -/
def decodes (bytes : List Byte) (i : Instr) : Bool :=
  match decode bytes with
  | .ok (j, rest) => decide (j = i) && rest.isEmpty && i.wellFormed && decide (encode i = bytes)
  | .error _ => false

def decodesAll (rows : List (List Byte × Instr)) : Bool := rows.all fun row => decodes row.1 row.2

-- Small machines

/-- Store bytes from an address on. -/
def put (m : Memory) (a : Nat) (bytes : List Byte) : Memory :=
  match bytes with
  | [] => m
  | b :: rest => put (m.write a b) (a + 1) rest

/-- A core with a processor record and data, and code at 0x0100, where PC stands. -/
def at100 (code : List Byte) (u : Cpu) (data : Memory) : State :=
  { State.reset with cpu := { u with pc := 0x0100 }, mem := put data 0x0100 code }

/-- The record after a call that costs `cost` cycles. -/
def afterStep (u : Cpu) (cost : Nat) : Cpu := { u with cycles := cost }

/-- Whether an outcome is a next state that passes a check. -/
def nextAnd (r : Res) (check : State → Bool) : Bool :=
  match r with
  | .next t => check t
  | .fault _ | .refused _ => false

def after (s : State) (check : State → Bool) : Bool := nextAnd (step s) check

/-- Whether one step of the code takes the record `u` to `v`, at `cost` cycles, with these bytes in memory. -/
def runs (code : List Byte) (u : Cpu) (data : Memory) (v : Cpu) (cost : Nat) (bytes : List (Word × Byte)) : Bool :=
  after (at100 code u data) fun t =>
    t.delta == cost && t.cpu == v && bytes.all fun x => t.byteAt x.1 == x.2

theorem next_of_nextAnd {r : Res} {check : State → Bool} (h : nextAnd r check = true) :
    ∃ t, r = .next t ∧ check t = true := by
  cases r with
  | next t => exact ⟨t, rfl, h⟩
  | fault e => exact absurd h Bool.false_ne_true
  | refused e => exact absurd h Bool.false_ne_true

-- The words of the table as the host numbers them: the first byte in the lowest bits

theorem test_table_word_ld_bc_nn : decodeTableWord 24 0x123401 = some (.ldRpNn .bc 0x1234) := by decide
theorem test_fetch_word_runs :
    after (State.reset.withFetchWord 24 0x123401) (fun t => t.cpu.bc == 0x1234 && t.cpu.pc == 0x0003 &&
      t.delta == 10) = true := by decide
theorem test_fetch_word_operands_zero :
    after (State.reset.withFetchWord 16 0x36DD) (fun t => t.delta == 19 && t.cpu.pc == 0x0004) = true := by decide
-- From reset with nothing placed, memory reads as 0x00 and the first step is a NOP (R72 of the memory, log entry 12)
theorem test_reset_runs_nop : after State.reset (fun t => t.cpu.pc == 0x0001 && t.delta == 4) = true := by decide


theorem test_decode_primary_1 :
    decodesAll
      [([0x00], .nop),
       ([0x08], .exAfAf),
       ([0x10, 0xFE], .djnz 0xFE),
       ([0x18, 0x7F], .jr 0x7F),
       ([0x30, 0x80], .jrCc .nc 0x80),
       ([0x31, 0x34, 0x12], .ldRpNn .sp 0x1234),
       ([0x19], .addHlRp .de),
       ([0x02], .ldMbcA),
       ([0x12], .ldMdeA),
       ([0x22, 0x01, 0xFE], .ldMnnHl 0xFE01),
       ([0x32, 0x00, 0x80], .ldMnnA 0x8000),
       ([0x0A], .ldAMbc),
       ([0x1A], .ldAMde),
       ([0x2A, 0xFF, 0x00], .ldHlMnn 0x00FF),
       ([0x3A, 0xEF, 0xBE], .ldAMnn 0xBEEF),
       ([0x23], .incRp .hl),
       ([0x0B], .decRp .bc),
       ([0x2C], .incR .l),
       ([0x34], .incMhl),
       ([0x3D], .decR .a),
       ([0x35], .decMhl),
       ([0x16, 0x01], .ldRN .d 0x01),
       ([0x36, 0xA5], .ldMhlN 0xA5),
       ([0x07], .rlca)] = true := by decide

theorem test_decode_primary_2 :
    decodesAll
      [([0x0F], .rrca),
       ([0x17], .rla),
       ([0x1F], .rra),
       ([0x27], .daa),
       ([0x2F], .cpl),
       ([0x37], .scf),
       ([0x3F], .ccf),
       ([0x76], .halt),
       ([0x44], .ldRR .b .h),
       ([0x4E], .ldRMhl .c),
       ([0x73], .ldMhlR .e),
       ([0x85], .addAR .l),
       ([0x86], .addAMhl),
       ([0xC6, 0x3C], .addAN 0x3C),
       ([0x8F], .adcAR .a),
       ([0x8E], .adcAMhl),
       ([0xCE, 0xFE], .adcAN 0xFE),
       ([0x92], .subR .d),
       ([0x96], .subMhl),
       ([0xD6, 0x7F], .subN 0x7F),
       ([0x98], .sbcAR .b),
       ([0x9E], .sbcAMhl),
       ([0xDE, 0x80], .sbcAN 0x80),
       ([0xA4], .andR .h)] = true := by decide

theorem test_decode_primary_3 :
    decodesAll
      [([0xA6], .andMhl),
       ([0xE6, 0x01], .andN 0x01),
       ([0xA9], .xorR .c),
       ([0xAE], .xorMhl),
       ([0xEE, 0xA5], .xorN 0xA5),
       ([0xB3], .orR .e),
       ([0xB6], .orMhl),
       ([0xF6, 0x3C], .orN 0x3C),
       ([0xBD], .cpR .l),
       ([0xBE], .cpMhl),
       ([0xFE, 0xFE], .cpN 0xFE),
       ([0xE0], .retCc .po),
       ([0xF1], .popRp2 .af),
       ([0xC9], .ret),
       ([0xD9], .exx),
       ([0xE9], .jpHl),
       ([0xF9], .ldSpHl),
       ([0xDA, 0x34, 0x12], .jpCcNn .c 0x1234),
       ([0xC3, 0x01, 0xFE], .jpNn 0xFE01),
       ([0xD3, 0x7F], .outMnA 0x7F),
       ([0xDB, 0x80], .inAMn 0x80),
       ([0xE3], .exMspHl),
       ([0xEB], .exDeHl),
       ([0xF3], .di)] = true := by decide

theorem test_decode_primary_4 :
    decodesAll
      [([0xFB], .ei),
       ([0xC4, 0x00, 0x80], .callCcNn .nz 0x8000),
       ([0xD5], .pushRp2 .de),
       ([0xCD, 0xFF, 0x00], .callNn 0x00FF),
       ([0xEF], .rstP 5)] = true := by decide

theorem test_decode_cb_1 :
    decodesAll
      [([0xCB, 0x07], .rlcR .a),
       ([0xCB, 0x06], .rlcMhl),
       ([0xCB, 0x0A], .rrcR .d),
       ([0xCB, 0x0E], .rrcMhl),
       ([0xCB, 0x10], .rlR .b),
       ([0xCB, 0x16], .rlMhl),
       ([0xCB, 0x1C], .rrR .h),
       ([0xCB, 0x1E], .rrMhl),
       ([0xCB, 0x21], .slaR .c),
       ([0xCB, 0x26], .slaMhl),
       ([0xCB, 0x2B], .sraR .e),
       ([0xCB, 0x2E], .sraMhl),
       ([0xCB, 0x35], .sllR .l),
       ([0xCB, 0x36], .sllMhl),
       ([0xCB, 0x3F], .srlR .a),
       ([0xCB, 0x3E], .srlMhl),
       ([0xCB, 0x5A], .bitBR 3 .d),
       ([0xCB, 0x76], .bitBMhl 6),
       ([0xCB, 0x88], .resBR 1 .b),
       ([0xCB, 0xAE], .resBMhl 5),
       ([0xCB, 0xDC], .setBR 3 .h),
       ([0xCB, 0xF6], .setBMhl 6)] = true := by decide

theorem test_decode_ed_1 :
    decodesAll
      [([0xED, 0x77], .illegalEd 0x77),
       ([0xED, 0x48], .inRMc .c),
       ([0xED, 0x70], .illegalEd70),
       ([0xED, 0x59], .outMcR .e),
       ([0xED, 0x71], .illegalEd71),
       ([0xED, 0x72], .sbcHlRp .sp),
       ([0xED, 0x5A], .adcHlRp .de),
       ([0xED, 0x63, 0xEF, 0xBE], .ldMnnRp .hl 0xBEEF),
       ([0xED, 0x4B, 0x34, 0x12], .ldRpMnn .bc 0x1234),
       ([0xED, 0x44], .neg),
       ([0xED, 0x45], .retn),
       ([0xED, 0x4D], .reti),
       ([0xED, 0x46], .im0),
       ([0xED, 0x56], .im1),
       ([0xED, 0x5E], .im2),
       ([0xED, 0x47], .ldIA),
       ([0xED, 0x4F], .ldRA),
       ([0xED, 0x57], .ldAI),
       ([0xED, 0x5F], .ldAR),
       ([0xED, 0x67], .rrd),
       ([0xED, 0x6F], .rld),
       ([0xED, 0xA0], .ldi),
       ([0xED, 0xA1], .cpi),
       ([0xED, 0xA2], .ini)] = true := by decide

theorem test_decode_ed_2 :
    decodesAll
      [([0xED, 0xA3], .outi),
       ([0xED, 0xA8], .ldd),
       ([0xED, 0xA9], .cpd),
       ([0xED, 0xAA], .ind),
       ([0xED, 0xAB], .outd),
       ([0xED, 0xB0], .ldir),
       ([0xED, 0xB1], .cpir),
       ([0xED, 0xB2], .inir),
       ([0xED, 0xB3], .otir),
       ([0xED, 0xB8], .lddr),
       ([0xED, 0xB9], .cpdr),
       ([0xED, 0xBA], .indr),
       ([0xED, 0xBB], .otdr)] = true := by decide

theorem test_decode_indexed_1 :
    decodesAll
      [([0xFD, 0xEB], .xyFallback .iy 0xEB),
       ([0xDD, 0x29], .addXyPp .ix .xy),
       ([0xFD, 0x21, 0x01, 0xFE], .ldXyNn .iy 0xFE01),
       ([0xDD, 0x22, 0x00, 0x80], .ldMnnXy .ix 0x8000),
       ([0xFD, 0x23], .incXy .iy),
       ([0xDD, 0x2B], .decXy .ix),
       ([0xFD, 0x2A, 0xFF, 0x00], .ldXyMnn .iy 0x00FF),
       ([0xDD, 0x24], .incXyh .ix),
       ([0xFD, 0x25], .decXyh .iy),
       ([0xDD, 0x2C], .incXyl .ix),
       ([0xFD, 0x2D], .decXyl .iy),
       ([0xDD, 0x26, 0x01], .ldXyhN .ix 0x01),
       ([0xFD, 0x2E, 0xA5], .ldXylN .iy 0xA5),
       ([0xDD, 0x34, 0x3C], .incMxyd .ix 0x3C),
       ([0xFD, 0x35, 0xFE], .decMxyd .iy 0xFE),
       ([0xDD, 0x36, 0x7F, 0x80], .ldMxydN .ix 0x7F 0x80),
       ([0xFD, 0x44], .ldBXyh .iy),
       ([0xDD, 0x45], .ldBXyl .ix),
       ([0xFD, 0x46, 0x01], .ldBMxyd .iy 0x01),
       ([0xDD, 0x4C], .ldCXyh .ix),
       ([0xFD, 0x4D], .ldCXyl .iy),
       ([0xDD, 0x4E, 0xA5], .ldCMxyd .ix 0xA5),
       ([0xFD, 0x54], .ldDXyh .iy),
       ([0xDD, 0x55], .ldDXyl .ix)] = true := by decide

theorem test_decode_indexed_2 :
    decodesAll
      [([0xFD, 0x56, 0x3C], .ldDMxyd .iy 0x3C),
       ([0xDD, 0x5C], .ldEXyh .ix),
       ([0xFD, 0x5D], .ldEXyl .iy),
       ([0xDD, 0x5E, 0xFE], .ldEMxyd .ix 0xFE),
       ([0xFD, 0x60], .ldXyhB .iy),
       ([0xDD, 0x61], .ldXyhC .ix),
       ([0xFD, 0x62], .ldXyhD .iy),
       ([0xDD, 0x63], .ldXyhE .ix),
       ([0xFD, 0x64], .ldXyhXyh .iy),
       ([0xDD, 0x65], .ldXyhXyl .ix),
       ([0xFD, 0x66, 0x7F], .ldHMxyd .iy 0x7F),
       ([0xDD, 0x67], .ldXyhA .ix),
       ([0xFD, 0x68], .ldXylB .iy),
       ([0xDD, 0x69], .ldXylC .ix),
       ([0xFD, 0x6A], .ldXylD .iy),
       ([0xDD, 0x6B], .ldXylE .ix),
       ([0xFD, 0x6C], .ldXylXyh .iy),
       ([0xDD, 0x6D], .ldXylXyl .ix),
       ([0xFD, 0x6E, 0x80], .ldLMxyd .iy 0x80),
       ([0xDD, 0x6F], .ldXylA .ix),
       ([0xFD, 0x70, 0x01], .ldMxydB .iy 0x01),
       ([0xDD, 0x71, 0xA5], .ldMxydC .ix 0xA5),
       ([0xFD, 0x72, 0x3C], .ldMxydD .iy 0x3C),
       ([0xDD, 0x73, 0xFE], .ldMxydE .ix 0xFE)] = true := by decide

theorem test_decode_indexed_3 :
    decodesAll
      [([0xFD, 0x74, 0x7F], .ldMxydH .iy 0x7F),
       ([0xDD, 0x75, 0x80], .ldMxydL .ix 0x80),
       ([0xFD, 0x77, 0x01], .ldMxydA .iy 0x01),
       ([0xDD, 0x7C], .ldAXyh .ix),
       ([0xFD, 0x7D], .ldAXyl .iy),
       ([0xDD, 0x7E, 0xA5], .ldAMxyd .ix 0xA5),
       ([0xFD, 0x84], .addAXyh .iy),
       ([0xDD, 0x85], .addAXyl .ix),
       ([0xFD, 0x86, 0x3C], .addAMxyd .iy 0x3C),
       ([0xDD, 0x8C], .adcAXyh .ix),
       ([0xFD, 0x8D], .adcAXyl .iy),
       ([0xDD, 0x8E, 0xFE], .adcAMxyd .ix 0xFE),
       ([0xFD, 0x94], .subXyh .iy),
       ([0xDD, 0x95], .subXyl .ix),
       ([0xFD, 0x96, 0x7F], .subMxyd .iy 0x7F),
       ([0xDD, 0x9C], .sbcAXyh .ix),
       ([0xFD, 0x9D], .sbcAXyl .iy),
       ([0xDD, 0x9E, 0x80], .sbcAMxyd .ix 0x80),
       ([0xFD, 0xA4], .andXyh .iy),
       ([0xDD, 0xA5], .andXyl .ix),
       ([0xFD, 0xA6, 0x01], .andMxyd .iy 0x01),
       ([0xDD, 0xAC], .xorXyh .ix),
       ([0xFD, 0xAD], .xorXyl .iy),
       ([0xDD, 0xAE, 0xA5], .xorMxyd .ix 0xA5)] = true := by decide

theorem test_decode_indexed_4 :
    decodesAll
      [([0xFD, 0xB4], .orXyh .iy),
       ([0xDD, 0xB5], .orXyl .ix),
       ([0xFD, 0xB6, 0x3C], .orMxyd .iy 0x3C),
       ([0xDD, 0xBC], .cpXyh .ix),
       ([0xFD, 0xBD], .cpXyl .iy),
       ([0xDD, 0xBE, 0xFE], .cpMxyd .ix 0xFE),
       ([0xFD, 0xE1], .popXy .iy),
       ([0xDD, 0xE3], .exMspXy .ix),
       ([0xFD, 0xE5], .pushXy .iy),
       ([0xDD, 0xE9], .jpXy .ix),
       ([0xFD, 0xF9], .ldSpXy .iy)] = true := by decide

theorem test_decode_indexed_cb_1 :
    decodesAll
      [([0xDD, 0xCB, 0x7F, 0x05], .rlcMxydR .ix 0x7F .l),
       ([0xFD, 0xCB, 0x80, 0x06], .rlcMxyd .iy 0x80),
       ([0xDD, 0xCB, 0x01, 0x0F], .rrcMxydR .ix 0x01 .a),
       ([0xFD, 0xCB, 0xA5, 0x0E], .rrcMxyd .iy 0xA5),
       ([0xDD, 0xCB, 0x3C, 0x12], .rlMxydR .ix 0x3C .d),
       ([0xFD, 0xCB, 0xFE, 0x16], .rlMxyd .iy 0xFE),
       ([0xDD, 0xCB, 0x7F, 0x18], .rrMxydR .ix 0x7F .b),
       ([0xFD, 0xCB, 0x80, 0x1E], .rrMxyd .iy 0x80),
       ([0xDD, 0xCB, 0x01, 0x24], .slaMxydR .ix 0x01 .h),
       ([0xFD, 0xCB, 0xA5, 0x26], .slaMxyd .iy 0xA5),
       ([0xDD, 0xCB, 0x3C, 0x29], .sraMxydR .ix 0x3C .c),
       ([0xFD, 0xCB, 0xFE, 0x2E], .sraMxyd .iy 0xFE),
       ([0xDD, 0xCB, 0x7F, 0x33], .sllMxydR .ix 0x7F .e),
       ([0xFD, 0xCB, 0x80, 0x36], .sllMxyd .iy 0x80),
       ([0xDD, 0xCB, 0x01, 0x3D], .srlMxydR .ix 0x01 .l),
       ([0xFD, 0xCB, 0xA5, 0x3E], .srlMxyd .iy 0xA5),
       ([0xDD, 0xCB, 0x3C, 0x4D], .bitBMxyd .ix 0x3C 1 5),
       ([0xFD, 0xCB, 0xFE, 0x9F], .resBMxydR .iy 0xFE 3 .a),
       ([0xDD, 0xCB, 0x7F, 0xB6], .resBMxyd .ix 0x7F 6),
       ([0xFD, 0xCB, 0x80, 0xCA], .setBMxydR .iy 0x80 1 .d),
       ([0xDD, 0xCB, 0x01, 0xEE], .setBMxyd .ix 0x01 5)] = true := by decide

-- One step, from the vectors of spec/95_test_vectors.md: the whole processor record, the cycles and the bytes named

-- V1, `ADD A,B`
theorem test_v1_add_a_b :
    runs [0x80] { Cpu.reset with a := 0x7F, b := 0x01 } []
      { Cpu.reset with a := 0x80, b := 0x01, f := 0x94, pc := 0x0101, r := 0x01, cycles := 4 } 4
      [] = true := by decide

-- V5, `ADC A,n`
theorem test_v5_adc_a_n :
    runs [0xCE, 0x0F] { Cpu.reset with a := 0xF0, f := 0x01 } []
      { Cpu.reset with a := 0x00, f := 0x51, pc := 0x0102, r := 0x01, cycles := 7 } 7 [] = true := by decide

-- V9, `SBC A,B`
theorem test_v9_sbc_a_b :
    runs [0x98] { Cpu.reset with a := 0x80, b := 0x7F, f := 0x01 } []
      { Cpu.reset with a := 0x00, b := 0x7F, f := 0x56, pc := 0x0101, r := 0x01, cycles := 4 } 4
      [] = true := by decide

-- V8, `SUB A`
theorem test_v8_sub_a :
    runs [0x97] { Cpu.reset with a := 0x5A } []
      { Cpu.reset with a := 0x00, f := 0x42, pc := 0x0101, r := 0x01, cycles := 4 } 4 [] = true := by decide

-- V21, `ADD A,IYL`
theorem test_v21_add_a_iyl :
    runs [0xFD, 0x85] { Cpu.reset with a := 0x01, iy := 0x12FF } []
      { Cpu.reset with a := 0x00, iy := 0x12FF, f := 0x51, pc := 0x0102, r := 0x02, cycles := 8 } 8
      [] = true := by decide

-- V22, `CP (IY+d)`
theorem test_v22_cp :
    runs [0xFD, 0xBE, 0x7F] { Cpu.reset with a := 0x00, iy := 0x8000 } [(0x807F, 0x01)]
      { Cpu.reset with a := 0x00, iy := 0x8000, f := 0x93, pc := 0x0103, r := 0x02, cycles := 19 } 19
      [] = true := by decide

-- V26, `INC (IX+d)`
theorem test_v26_inc :
    runs [0xDD, 0x34, 0x80] { Cpu.reset with ix := 0x8080 } [(0x8000, 0x7F)]
      { Cpu.reset with ix := 0x8080, f := 0x94, pc := 0x0103, r := 0x02, cycles := 23 } 23
      [(0x8000, 0x80)] = true := by decide

-- V28, `DEC A`
theorem test_v28_dec_a :
    runs [0x3D] { Cpu.reset with a := 0x80 } []
      { Cpu.reset with a := 0x7F, f := 0x3E, pc := 0x0101, r := 0x01, cycles := 4 } 4 [] = true := by decide

-- V32, `DEC IYL`
theorem test_v32_dec_iyl :
    runs [0xFD, 0x2D] { Cpu.reset with iy := 0x1200 } []
      { Cpu.reset with iy := 0x12FF, f := 0xBA, pc := 0x0102, r := 0x02, cycles := 8 } 8
      [] = true := by decide

-- V43, `LD H,(IX+d)`
theorem test_v43_ld_h_mix_d :
    runs [0xDD, 0x66, 0x01] { Cpu.reset with ix := 0x8000, h := 0x00, l := 0x00 } [(0x8001, 0x77)]
      { Cpu.reset with ix := 0x8000, h := 0x77, l := 0x00, pc := 0x0103, r := 0x02, cycles := 19 } 19
      [] = true := by decide

-- V47, `LD (IX+d),n`
theorem test_v47_ld :
    runs [0xDD, 0x36, 0x05, 0xAA] { Cpu.reset with ix := 0x7FFB } []
      { Cpu.reset with ix := 0x7FFB, pc := 0x0104, r := 0x02, cycles := 19 } 19 [(0x8000, 0xAA)] = true := by decide

-- V54, `LD A,I`
theorem test_v54_ld_a_i :
    runs [0xED, 0x57] { Cpu.reset with i := 0x80, iff2 := true, f := 0x01 } []
      { Cpu.reset with i := 0x80, iff2 := true, f := 0x85, a := 0x80, pc := 0x0102, r := 0x02, cycles := 9 } 9
      [] = true := by decide

-- V57, `LD A,R`
theorem test_v57_ld_a_r :
    runs [0xED, 0x5F] { Cpu.reset with r := 0xFE, iff2 := true } []
      { Cpu.reset with r := 0x80, iff2 := true, a := 0x80, f := 0x84, pc := 0x0102, cycles := 9 } 9
      [] = true := by decide

-- V59, `LD R,A`
theorem test_v59_ld_r_a :
    runs [0xED, 0x4F] { Cpu.reset with a := 0xFF } []
      { Cpu.reset with a := 0xFF, pc := 0x0102, r := 0xFF, cycles := 9 } 9 [] = true := by decide

-- V61, `LD IXH,IXL`
theorem test_v61_ld_ixh_ixl :
    runs [0xDD, 0x65] { Cpu.reset with ix := 0x1234, h := 0x56, l := 0x78 } []
      { Cpu.reset with ix := 0x3434, h := 0x56, l := 0x78, pc := 0x0102, r := 0x02, cycles := 8 } 8
      [] = true := by decide

-- V62, `LD IYL,n`
theorem test_v62_ld_iyl_n :
    runs [0xFD, 0x2E, 0x99] { Cpu.reset with iy := 0x1234 } []
      { Cpu.reset with iy := 0x1299, pc := 0x0103, r := 0x02, cycles := 11 } 11 [] = true := by decide

-- V74, `LD HL,(nn)`
theorem test_v74_ld_hl_mnn :
    runs [0x2A, 0xFF, 0xFF] Cpu.reset [(0x0000, 0x12), (0xFFFF, 0x34)]
      { Cpu.reset with h := 0x12, l := 0x34, pc := 0x0103, r := 0x01, cycles := 16 } 16 [] = true := by decide

-- V78, `LD (nn),SP`
theorem test_v78_ld :
    runs [0xED, 0x73, 0x00, 0x80] { Cpu.reset with sp := 0x1234 } []
      { Cpu.reset with sp := 0x1234, pc := 0x0104, r := 0x02, cycles := 20 } 20 [(0x8000, 0x34), (0x8001,
                       0x12)] = true := by decide

-- V79, `LD (nn),IX`
theorem test_v79_ld :
    runs [0xDD, 0x22, 0x00, 0x80] { Cpu.reset with ix := 0xA1B2 } []
      { Cpu.reset with ix := 0xA1B2, pc := 0x0104, r := 0x02, cycles := 20 } 20 [(0x8000, 0xB2), (0x8001,
                       0xA1)] = true := by decide

-- V83, `PUSH AF`
theorem test_v83_push_af :
    runs [0xF5] { Cpu.reset with sp := 0x0000, f := 0xD7 } []
      { Cpu.reset with sp := 0xFFFE, f := 0xD7, pc := 0x0101, r := 0x01, cycles := 11 } 11
      [(0xFFFE, 0xD7), (0xFFFF, 0xFF)] = true := by decide

-- V86, `POP DE`
theorem test_v86_pop_de :
    runs [0xD1] { Cpu.reset with sp := 0xFFFF } [(0x0000, 0x12), (0xFFFF, 0x34)]
      { Cpu.reset with sp := 0x0001, d := 0x12, e := 0x34, pc := 0x0101, r := 0x01, cycles := 10 } 10
      [] = true := by decide

-- V102, `EXX`
theorem test_v102_exx :
    runs [0xD9] { Cpu.reset with b := 0x00, c := 0x01, d := 0x00, e := 0x02, h := 0x00, l := 0x03,
                                 bcShadow := 0x0004, deShadow := 0x0005, hlShadow := 0x0006 } []
      { Cpu.reset with b := 0x00, c := 0x04, d := 0x00, e := 0x05, h := 0x00, l := 0x06, bcShadow := 0x0001,
                       deShadow := 0x0002, hlShadow := 0x0003, pc := 0x0101, r := 0x01, cycles := 4 } 4
      [] = true := by decide

-- V103, `EX (SP),HL`
theorem test_v103_ex_msp_hl :
    runs [0xE3] { Cpu.reset with sp := 0x8000, h := 0x12, l := 0x34 } [(0x8000, 0x78), (0x8001, 0x56)]
      { Cpu.reset with sp := 0x8000, h := 0x56, l := 0x78, pc := 0x0101, r := 0x01, cycles := 19 } 19
      [(0x8000, 0x34), (0x8001, 0x12)] = true := by decide

-- V104, `EX (SP),IX`
theorem test_v104_ex_msp_ix :
    runs [0xDD, 0xE3] { Cpu.reset with sp := 0x8000, ix := 0x1234 } [(0x8000, 0x78), (0x8001, 0x56)]
      { Cpu.reset with sp := 0x8000, ix := 0x5678, pc := 0x0102, r := 0x02, cycles := 23 } 23
      [(0x8000, 0x34), (0x8001, 0x12)] = true := by decide

-- V106, `LDI`
theorem test_v106_ldi :
    runs [0xED, 0xA0] { Cpu.reset with h := 0xFF, l := 0xFF, d := 0x90, e := 0x00, b := 0x00, c := 0x00,
                                       f := 0xC1 } []
      { Cpu.reset with h := 0x00, l := 0x00, d := 0x90, e := 0x01, b := 0xFF, c := 0xFF, f := 0xED, pc := 0x0102,
                       r := 0x02, cycles := 16 } 16
      [(0x9000, 0x00)] = true := by decide

-- V108, `LDD`
theorem test_v108_ldd :
    runs [0xED, 0xA8] { Cpu.reset with h := 0x80, l := 0x00, d := 0x00, e := 0x00, b := 0x00, c := 0x03 } [(0x8000,
                                       0x07)]
      { Cpu.reset with h := 0x7F, l := 0xFF, d := 0xFF, e := 0xFF, b := 0x00, c := 0x02, f := 0x24, pc := 0x0102,
                       r := 0x02, cycles := 16 } 16
      [(0x0000, 0x07)] = true := by decide

-- V111, `CPI`
theorem test_v111_cpi :
    runs [0xED, 0xA1] { Cpu.reset with a := 0x10, h := 0x80, l := 0x00, b := 0x00, c := 0x01, f := 0x01 } [(0x8000,
                                       0x01)]
      { Cpu.reset with a := 0x10, h := 0x80, l := 0x01, b := 0x00, c := 0x00, f := 0x3B, pc := 0x0102, r := 0x02,
                       cycles := 16 } 16
      [] = true := by decide

-- V113, `CPD`
theorem test_v113_cpd :
    runs [0xED, 0xA9] { Cpu.reset with a := 0x00, h := 0x80, l := 0x00, b := 0x00, c := 0x02 } [(0x8000, 0x01)]
      { Cpu.reset with a := 0x00, h := 0x7F, l := 0xFF, b := 0x00, c := 0x01, f := 0xBE, pc := 0x0102, r := 0x02,
                       cycles := 16 } 16
      [] = true := by decide

-- V131, `DAA`
theorem test_v131_daa :
    runs [0x27] { Cpu.reset with a := 0x0F, f := 0x12 } []
      { Cpu.reset with a := 0x09, f := 0x0E, pc := 0x0101, r := 0x01, cycles := 4 } 4 [] = true := by decide

-- V134, `DAA`
theorem test_v134_daa :
    runs [0x27] { Cpu.reset with a := 0x00, f := 0x03 } []
      { Cpu.reset with a := 0xA0, f := 0xA7, pc := 0x0101, r := 0x01, cycles := 4 } 4 [] = true := by decide

-- V136, `NEG`
theorem test_v136_neg :
    runs [0xED, 0x44] { Cpu.reset with a := 0x01 } []
      { Cpu.reset with a := 0xFF, f := 0xBB, pc := 0x0102, r := 0x02, cycles := 8 } 8 [] = true := by decide

-- V140, `CCF`
theorem test_v140_ccf :
    runs [0x3F] { Cpu.reset with a := 0x00, f := 0xC4 } []
      { Cpu.reset with a := 0x00, f := 0xC5, pc := 0x0101, r := 0x01, cycles := 4 } 4 [] = true := by decide

-- V144, `DI`
theorem test_v144_di :
    runs [0xF3] { Cpu.reset with iff1 := true, iff2 := true } []
      { Cpu.reset with iff1 := false, iff2 := false, pc := 0x0101, r := 0x01, cycles := 4 } 4
      [] = true := by decide

-- V145, `EI`
theorem test_v145_ei :
    runs [0xFB] Cpu.reset []
      { Cpu.reset with pc := 0x0101, r := 0x01, eiDelay := 1, cycles := 4 } 4 [] = true := by decide

-- V150, `IM 0`
theorem test_v150_im_0 :
    runs [0xED, 0x46] { Cpu.reset with im := .mode2 } []
      { Cpu.reset with im := .mode0, pc := 0x0102, r := 0x02, cycles := 8 } 8 [] = true := by decide

-- V151, `IM 1`
theorem test_v151_im_1 :
    runs [0xED, 0x56] Cpu.reset []
      { Cpu.reset with pc := 0x0102, r := 0x02, im := .mode1, cycles := 8 } 8 [] = true := by decide

-- V152, `IM 2`
theorem test_v152_im_2 :
    runs [0xED, 0x5E] Cpu.reset []
      { Cpu.reset with pc := 0x0102, r := 0x02, im := .mode2, cycles := 8 } 8 [] = true := by decide

-- V173, `ADC HL,BC`
theorem test_v173_adc_hl_bc :
    runs [0xED, 0x4A] { Cpu.reset with h := 0x7F, l := 0xFF, b := 0x00, c := 0x00, f := 0x01 } []
      { Cpu.reset with h := 0x80, l := 0x00, b := 0x00, c := 0x00, f := 0x94, pc := 0x0102, r := 0x02,
                       cycles := 15 } 15
      [] = true := by decide

-- V176, `SBC HL,HL`
theorem test_v176_sbc_hl_hl :
    runs [0xED, 0x62] { Cpu.reset with h := 0x12, l := 0x34, f := 0x01 } []
      { Cpu.reset with h := 0xFF, l := 0xFF, f := 0xBB, pc := 0x0102, r := 0x02, cycles := 15 } 15
      [] = true := by decide

-- V179, `ADD IX,IX`
theorem test_v179_add_ix_ix :
    runs [0xDD, 0x29] { Cpu.reset with ix := 0x8000 } []
      { Cpu.reset with ix := 0x0000, f := 0x01, pc := 0x0102, r := 0x02, cycles := 15 } 15
      [] = true := by decide

-- V181, `INC SP`
theorem test_v181_inc_sp :
    runs [0x33] { Cpu.reset with sp := 0xFFFF, f := 0x00 } []
      { Cpu.reset with sp := 0x0000, f := 0x00, pc := 0x0101, r := 0x01, cycles := 6 } 6
      [] = true := by decide

-- V200, `RLCA`
theorem test_v200_rlca :
    runs [0x07] { Cpu.reset with a := 0x81, f := 0xC4 } []
      { Cpu.reset with a := 0x03, f := 0xC5, pc := 0x0101, r := 0x01, cycles := 4 } 4 [] = true := by decide

-- V203, `RRA`
theorem test_v203_rra :
    runs [0x1F] { Cpu.reset with a := 0x01, f := 0x00 } []
      { Cpu.reset with a := 0x00, f := 0x01, pc := 0x0101, r := 0x01, cycles := 4 } 4 [] = true := by decide

-- V205, `RRC (HL)`
theorem test_v205_rrc :
    runs [0xCB, 0x0E] { Cpu.reset with h := 0x80, l := 0x00 } [(0x8000, 0x01)]
      { Cpu.reset with h := 0x80, l := 0x00, f := 0x81, pc := 0x0102, r := 0x02, cycles := 15 } 15
      [(0x8000, 0x80)] = true := by decide

-- V207, `RR D`
theorem test_v207_rr_d :
    runs [0xCB, 0x1A] { Cpu.reset with d := 0x00, f := 0x01 } []
      { Cpu.reset with d := 0x80, f := 0x80, pc := 0x0102, r := 0x02, cycles := 8 } 8 [] = true := by decide

-- V209, `SRA H`
theorem test_v209_sra_h :
    runs [0xCB, 0x2C] { Cpu.reset with h := 0x81 } []
      { Cpu.reset with h := 0xC0, f := 0x85, pc := 0x0102, r := 0x02, cycles := 8 } 8 [] = true := by decide

-- V210, `SLL L`
theorem test_v210_sll_l :
    runs [0xCB, 0x35] { Cpu.reset with l := 0x00 } []
      { Cpu.reset with l := 0x01, pc := 0x0102, r := 0x02, cycles := 8 } 8 [] = true := by decide

-- V214, `SLA (IX+d),H`
theorem test_v214_sla :
    runs [0xDD, 0xCB, 0x00, 0x24] { Cpu.reset with ix := 0x8000, h := 0x00, l := 0x00 } [(0x8000, 0x41)]
      { Cpu.reset with ix := 0x8000, h := 0x82, l := 0x00, f := 0x84, pc := 0x0104, r := 0x02, cycles := 23 } 23
      [(0x8000, 0x82)] = true := by decide

-- V215, `RLD`
theorem test_v215_rld :
    runs [0xED, 0x6F] { Cpu.reset with a := 0x12, h := 0x80, l := 0x00 } [(0x8000, 0x34)]
      { Cpu.reset with a := 0x13, h := 0x80, l := 0x00, pc := 0x0102, r := 0x02, cycles := 18 } 18
      [(0x8000, 0x42)] = true := by decide

-- V216, `RRD`
theorem test_v216_rrd :
    runs [0xED, 0x67] { Cpu.reset with a := 0x12, h := 0x80, l := 0x00, f := 0x01 } [(0x8000, 0x34)]
      { Cpu.reset with a := 0x14, h := 0x80, l := 0x00, f := 0x05, pc := 0x0102, r := 0x02, cycles := 18 } 18
      [(0x8000, 0x23)] = true := by decide

-- V219, `BIT 1,C`
theorem test_v219_bit_1_c :
    runs [0xCB, 0x49] { Cpu.reset with c := 0x2A, f := 0x01 } []
      { Cpu.reset with c := 0x2A, f := 0x39, pc := 0x0102, r := 0x02, cycles := 8 } 8 [] = true := by decide

-- V224, `RES 0,A`
theorem test_v224_res_0_a :
    runs [0xCB, 0x87] { Cpu.reset with a := 0x01, f := 0xFF } []
      { Cpu.reset with a := 0x00, f := 0xFF, pc := 0x0102, r := 0x02, cycles := 8 } 8 [] = true := by decide

-- V227, `SET 3,(IY+d),A`
theorem test_v227_set_3_miy_d_a :
    runs [0xFD, 0xCB, 0xFE, 0xDF] { Cpu.reset with iy := 0x8002, a := 0x00 } []
      { Cpu.reset with iy := 0x8002, a := 0x08, pc := 0x0104, r := 0x02, cycles := 23 } 23
      [(0x8000, 0x08)] = true := by decide

-- V244, `JP M,nn`
theorem test_v244_jp_m_nn :
    runs [0xFA, 0x00, 0x80] { Cpu.reset with f := 0x7F } []
      { Cpu.reset with f := 0x7F, pc := 0x0103, r := 0x01, cycles := 10 } 10 [] = true := by decide

-- V248, `JR C,e (taken)`
theorem test_v248_jr_c_e :
    runs [0x38, 0x80] { Cpu.reset with f := 0x01 } []
      { Cpu.reset with f := 0x01, pc := 0x0082, r := 0x01, cycles := 12 } 12 [] = true := by decide

-- V250, `JP (IY)`
theorem test_v250_jp :
    runs [0xFD, 0xE9] { Cpu.reset with iy := 0x9000 } []
      { Cpu.reset with iy := 0x9000, pc := 0x9000, r := 0x02, cycles := 8 } 8 [] = true := by decide

-- V252, `DJNZ e (falls through)`
theorem test_v252_djnz_e :
    runs [0x10, 0xFE] { Cpu.reset with b := 0x01 } []
      { Cpu.reset with b := 0x00, pc := 0x0102, r := 0x01, cycles := 8 } 8 [] = true := by decide

-- V253, `DJNZ e (B = 0)`
theorem test_v253_djnz_e :
    runs [0x10, 0x00] { Cpu.reset with b := 0x00 } []
      { Cpu.reset with b := 0xFF, pc := 0x0102, r := 0x01, cycles := 13 } 13 [] = true := by decide

-- V254, `CALL nn`
theorem test_v254_call_nn :
    runs [0xCD, 0x34, 0x12] { Cpu.reset with sp := 0x8000 } []
      { Cpu.reset with sp := 0x7FFE, pc := 0x1234, r := 0x01, cycles := 17 } 17 [(0x7FFE, 0x03), (0x7FFF,
                       0x01)] = true := by decide

-- V255, `CALL NZ,nn (not taken)`
theorem test_v255_call_nz_nn :
    runs [0xC4, 0x34, 0x12] { Cpu.reset with sp := 0x8000, f := 0x40 } []
      { Cpu.reset with sp := 0x8000, f := 0x40, pc := 0x0103, r := 0x01, cycles := 10 } 10
      [] = true := by decide

-- V258, `RET NC (taken)`
theorem test_v258_ret_nc :
    runs [0xD0] { Cpu.reset with sp := 0x7FFE } [(0x7FFF, 0x90)]
      { Cpu.reset with sp := 0x8000, pc := 0x9000, r := 0x01, cycles := 11 } 11 [] = true := by decide

-- V259, `RET C (not taken)`
theorem test_v259_ret_c :
    runs [0xD8] { Cpu.reset with sp := 0x7FFE } []
      { Cpu.reset with sp := 0x7FFE, pc := 0x0101, r := 0x01, cycles := 5 } 5 [] = true := by decide

-- V260, `RETI`
theorem test_v260_reti :
    runs [0xED, 0x4D] { Cpu.reset with sp := 0x7FFE, iff1 := false, iff2 := true } [(0x7FFF, 0x90)]
      { Cpu.reset with sp := 0x8000, iff1 := true, iff2 := true, pc := 0x9000, r := 0x02, cycles := 14 } 14
      [] = true := by decide

-- V261, `RETN`
theorem test_v261_retn :
    runs [0xED, 0x45] { Cpu.reset with sp := 0x7FFE, iff1 := true, iff2 := false } [(0x7FFF, 0x90)]
      { Cpu.reset with sp := 0x8000, iff1 := false, iff2 := false, pc := 0x9000, r := 0x02, cycles := 14 } 14
      [] = true := by decide

-- V263, `RST 00H`
theorem test_v263_rst_00h :
    runs [0xC7] { Cpu.reset with sp := 0x8000 } []
      { Cpu.reset with sp := 0x7FFE, pc := 0x0000, r := 0x01, cycles := 11 } 11 [(0x7FFE, 0x01), (0x7FFF,
                       0x01)] = true := by decide

-- Ports, interrupts, prefixes and the host's calls, from the same vectors

-- V280, `IN A,(n)`
theorem test_v280_in_a_n :
    after { at100 [0xDB, 0xFE] { Cpu.reset with a := 0x12 } [] with portIn := [0xBF] }
      (fun t => t.cpu == afterStep { Cpu.reset with a := 0xBF, pc := 0x0102, r := 0x01 } 11 &&
        t.bus.head? == some (.portRead 0x00FE 0xBF)) = true := by decide

-- V281, the same with `PortHighImm` = A
theorem test_v281_in_a_n_high_a :
    after { at100 [0xDB, 0xFE] { Cpu.reset with a := 0x12 } [] with
        portIn := [0xBF], params := { portHighImm := .a } }
      (fun t => t.cpu.a == 0xBF && t.bus.head? == some (.portRead 0x12FE 0xBF)) = true := by decide

-- V282, `IN B,(C)`
theorem test_v282_in_b_c :
    after { at100 [0xED, 0x40] { Cpu.reset with b := 0x10, c := 0xFE, f := 0x01 } [] with portIn := [0x00] }
      (fun t => t.cpu == afterStep { Cpu.reset with c := 0xFE, f := 0x45, pc := 0x0102, r := 0x02 } 12 &&
        t.bus.head? == some (.portRead 0x10FE 0x00)) = true := by decide

-- V286, `OUT (C),B`
theorem test_v286_out_c_b :
    after (at100 [0xED, 0x41] { Cpu.reset with b := 0x12, c := 0x34 } [])
      (fun t => t.delta == 12 && t.bus.head? == some (.portWrite 0x1234 0x12)) = true := by decide

-- V288, `INI` with B = 0
theorem test_v288_ini :
    after { at100 [0xED, 0xA2] { Cpu.reset with c := 0x10, h := 0x80 } [] with portIn := [0x55] }
      (fun t => t.delta == 16 && t.cpu.b == 0xFF && t.cpu.hl == 0x8001 && t.byteAt 0x8000 == 0x55) = true := by decide

-- V292, `OUTI`: the port has B after the decrement
theorem test_v292_outi :
    after (at100 [0xED, 0xA3] { Cpu.reset with b := 0x01, c := 0x10, h := 0x80 } [(0x8000, 0xAA)])
      (fun t => t.delta == 16 && t.cpu.b == 0x00 && t.cpu.hl == 0x8001 &&
        t.bus.head? == some (.portWrite 0x0010 0xAA)) = true := by decide

-- V291, the first step of `INDR`, which repeats
theorem test_v291_indr :
    after { at100 [0xED, 0xBA] { Cpu.reset with b := 0x02, c := 0x10, h := 0x80, l := 0x01 } [] with
        portIn := [0x77, 0x77] }
      (fun t => t.delta == 21 && t.cpu.pc == 0x0100 && t.cpu.b == 0x01 && t.byteAt 0x8001 == 0x77) = true := by
  decide

-- V115, the first step of `LDIR`, which repeats
theorem test_v115_ldir :
    after (at100 [0xED, 0xB0] { Cpu.reset with h := 0x80, d := 0x90, c := 0x03, f := 0xC1 } [(0x8000, 0xA1)])
      (fun t => t.delta == 21 && t.cpu.pc == 0x0100 && t.cpu.bc == 0x0002 && t.byteAt 0x9000 == 0xA1) = true := by
  decide

-- The flags the spec fixes where the others are draws: V288, V292, V220, V222
theorem test_v288_v292_flags :
    ∀ k : Byte, (blockIoFlags k 0xFF).z = false ∧ (blockIoFlags k 0xFF).pv = true ∧
      (blockIoFlags k 0x00).z = true ∧ (blockIoFlags k 0x00).pv = false := fun _ => ⟨rfl, rfl, rfl, rfl⟩

theorem test_v220_v222_flags :
    ∀ x5 x3 : Bool, (bitFlags 3 0x08 x5 x3 (Flags.ofByte 0x00)).toByte &&& 0xD7 = 0x10 ∧
      (bitFlags 7 0x80 x5 x3 (Flags.ofByte 0x00)).toByte &&& 0xD7 = 0x90 := by decide

-- V220, `BIT 3,(HL)`
theorem test_v220_bit_3_mhl :
    after (at100 [0xCB, 0x5E] { Cpu.reset with h := 0x80 } [(0x8000, 0x08)])
      (fun t => t.delta == 12 && t.draws == 1 && t.cpu.pc == 0x0102 && t.byteAt 0x8000 == 0x08) = true := by decide

-- V222, `BIT 7,(IX+d)` with z = 1: C stays
theorem test_v222_bit_7_mixd :
    after (at100 [0xDD, 0xCB, 0x00, 0x79] { Cpu.reset with ix := 0x8000, c := 0x55 } [(0x8000, 0x80)])
      (fun t => t.delta == 20 && t.cpu.c == 0x55 && t.byteAt 0x8000 == 0x80) = true := by decide

-- V302, mode 2
theorem test_v302_mode_2 :
    after { at100 [] { Cpu.reset with im := .mode2, iff1 := true, i := 0x80, sp := 0x8000 } [(0x8011, 0x90)] with
        calls := [.interrupt 0x11] }
      (fun t => t.cpu == afterStep { Cpu.reset with im := .mode2, i := 0x80, sp := 0x7FFE, pc := 0x9000 } 19 &&
        t.byteAt 0x7FFE == 0x00 && t.byteAt 0x7FFF == 0x01) = true := by decide

-- V304, mode 0 with RST 38H: PC is pushed as it stands
theorem test_v304_mode_0_rst :
    after { at100 [] { Cpu.reset with iff1 := true, sp := 0x8000 } [] with calls := [.interrupt 0xFF] }
      (fun t => t.cpu == afterStep { Cpu.reset with sp := 0x7FFE, pc := 0x0038, r := 0x01 } 22 &&
        t.byteAt 0x7FFE == 0x00 && t.byteAt 0x7FFF == 0x01) = true := by decide

-- V306, mode 0 with a data byte that is not admitted: no field changed, mark set, and the next step is refused
theorem test_v306_mode_0_refused :
    after { at100 [] { Cpu.reset with iff1 := true } [] with calls := [.interrupt 0xCD, .step] }
      (fun t => t.cpu == { Cpu.reset with iff1 := true, pc := 0x0100 } &&
        t.result == .refused (.mode0DataNotAdmitted 0xCD) &&
        (match step t with
         | .refused r => r == .mode0DataNotAdmitted 0xCD
         | .next _ | .fault _ => false)) = true := by decide

-- V312, `ED 00`: no field changed, mark set, and the next step answers the record
theorem test_v312_illegal :
    after (at100 [0xED, 0x00] { Cpu.reset with r := 0x05 } [])
      (fun t => t.cpu == { Cpu.reset with r := 0x05, pc := 0x0100 } && t.delta == 0 &&
        t.result == .illegalOpcode { addr := 0x0100, prefixes := [0xED], opcode := 0x00 } &&
        (match step t with
         | .fault e => e == .illegalOpcode { addr := 0x0100, prefixes := [0xED], opcode := 0x00 }
         | .next _ | .refused _ => false)) = true := by decide

-- V313, `DD ED 77`
theorem test_v313_illegal_behind_prefix :
    after (at100 [0xDD, 0xED, 0x77] Cpu.reset [])
      (fun t => t.faultMark == some { addr := 0x0100, prefixes := [0xDD, 0xED], opcode := 0x77 } &&
        t.cpu == { Cpu.reset with pc := 0x0100 }) = true := by decide

-- V315, `DD FD 21 nn`
theorem test_v315_prefix_prefix :
    after (at100 [0xDD, 0xFD, 0x21, 0x34, 0x12] Cpu.reset [])
      (fun t => t.cpu == afterStep { Cpu.reset with iy := 0x1234, pc := 0x0105, r := 0x03 } 18) = true := by decide

-- V316, `DD EB` exchanges DE with HL
theorem test_v316_fallback_ex :
    after (at100 [0xDD, 0xEB] { Cpu.reset with e := 0x01, l := 0x02, ix := 0x0003 } [])
      (fun t => t.cpu == afterStep { Cpu.reset with e := 0x02, l := 0x01, ix := 0x0003, pc := 0x0102, r := 0x02 }
        8) = true := by decide

-- V319, R keeps bit 7
theorem test_v319_refresh :
    after (at100 [0x00] { Cpu.reset with r := 0xFF } []) (fun t => t.cpu.r == 0x80 && t.delta == 4) = true := by
  decide

-- V321, a hook that handles INC A and sets A
theorem test_v321_hook :
    after { at100 [0x3C] { Cpu.reset with eiDelay := 1 } [] with
        hook := some [⟨true, ⟨some { Cpu.reset with eiDelay := 1, a := 0x42, pc := 0x0100 }, []⟩⟩] }
      (fun t => t.cpu == { Cpu.reset with a := 0x42, pc := 0x0100, iff1 := true, iff2 := true } && t.delta == 0 &&
        t.bus.head? == some (.trapHook 0x0100 0x3C true)) = true := by decide

-- R126: a hook that does not handle INC A; the byte is read once and used, PC and R advance, and dispatch goes on
theorem test_hook_passes :
    after { at100 [0x3C] { Cpu.reset with a := 0x41 } [] with hook := some [{ handled := false, act := {} }] }
      (fun t => t.cpu == afterStep { Cpu.reset with a := 0x42, pc := 0x0101, r := 0x01 } 4 && t.hook == some [] &&
        t.bus == [.trapHook 0x0100 0x3C false, .memRead 0x0100 0x3C]) = true := by decide

-- R70, R721: a ROM that ignores a store, a device whose read is answered otherwise than memory holds, and a fetch
-- answered by the host
theorem test_rom_ignores_store :
    after { at100 [0x36, 0x55] { Cpu.reset with h := 0x80 } [(0x8000, 0x01)] with
        memHost := [{}, {}, { stores := some [] }] }
      (fun t => t.byteAt 0x8000 == 0x01 && t.memHost == [] && t.bus.head? == some (.memWrite 0x8000 0x55)) = true := by
  decide

theorem test_device_answers_read :
    after { at100 [0x7E] { Cpu.reset with h := 0x80 } [(0x8000, 0x01)] with
        memHost := [{}, { answer := some 0x5A, stores := some [(0x9000, 0x02)] }, {}] }
      (fun t => t.cpu.a == 0x5A && t.byteAt 0x8000 == 0x01 && t.byteAt 0x9000 == 0x02 && t.memHost == [{}]) = true := by
  decide

theorem test_fetch_is_answered :
    after { at100 [] Cpu.reset [] with memHost := [{ answer := some 0x3E }, { answer := some 0x42 }] }
      (fun t => t.cpu.a == 0x42 && t.cpu.pc == 0x0102 &&
        t.bus == [.memRead 0x0101 0x42, .memRead 0x0100 0x3E]) = true := by decide

-- The hypotheses of the statements are met

/-- A plain machine: code at 0x0100 and otherwise the reset state. -/
def plain (code : List Byte) : State := at100 code Cpu.reset []

theorem test_met_dispatches (code : List Byte) : Dispatches (plain code) [] {} none [] :=
  ⟨.inr ⟨rfl, rfl⟩, rfl, rfl, rfl, .inl ⟨rfl, rfl, rfl, rfl⟩⟩

-- MemoryReadsAsWritten: plain memory, and a host with something prepared
theorem test_met_memory :
    (plain []).memHost = [] ∧ (reaction { plain [] with memHost := [{ stores := some [] }] }).stores = some [] := by
  decide

theorem test_met_decode_of_encode :
    Instr.wellFormed (.jrCc .c 0xFE) = true ∧ Instr.wellFormed (.illegalEd 0xFF) = true ∧
      Instr.wellFormed (.xyFallback .iy 0xFF) = true ∧ Instr.wellFormed (.setBMxydR .ix 0x80 7 .a) = true := by
  decide

-- PrefixedBytesClassified and the two sides of its equivalences
theorem test_met_classified :
    isIllegal (decodeBytes 0xED 0x77 0 0).1 = true ∧ isIllegal (decodeBytes 0xED 0x44 0 0).1 = false ∧
      isFallback (decodeBytes 0xDD 0xDD 0 0).1 = true ∧ isFallback (decodeBytes 0xFD 0x21 0 0).1 = false := by decide

-- LoadsBetweenRegisters: the list of half loads has its 24 members
theorem test_met_half_loads : (halfLoads .ix).length = 24 ∧ (halfLoads .iy).length = 24 := by decide

-- LogicAndDecrementFlags: the three pairs of its list
theorem test_met_logic (a v : Byte) :
    (AluOp.and, a &&& v) ∈ [(AluOp.and, a &&& v), (.xor, a ^^^ v), (.or, a ||| v)] ∧
      (AluOp.or, a ||| v) ∈ [(AluOp.and, a &&& v), (.xor, a ^^^ v), (.or, a ||| v)] := by simp

-- BitChanges and the parity clause: the boundary bits
theorem test_met_bits :
    setBit 7 0x00 = 0x80 ∧ resBit 0 0xFF = 0xFE ∧ parity ((0x00 : Byte) ^^^ ((1 : Byte) <<< 7)) = false := by decide

-- DisableAndEnable: EiDelay 0, and at its bounds 1 and 2
theorem test_met_ei :
    (plain [0xFB]).cpu.eiDelay = 0 ∧ (at100 [0xFB] { Cpu.reset with eiDelay := 1 } []).cpu.eiDelay ≠ 0 ∧
      (at100 [0xFB] { Cpu.reset with eiDelay := 2 } []).cpu.eiDelay ≠ 0 := by decide

-- Calls, Returns, Jumps: each condition holds in one record and not in another
theorem test_met_conditions (cc : Cond) : (∃ u, holds cc u = true) ∧ (∃ u, holds cc u = false) := by
  cases cc <;>
    exact ⟨by first | exact ⟨{ Cpu.reset with f := 0xFF }, by decide⟩ | exact ⟨{ Cpu.reset with f := 0x00 },
                                              by decide⟩,
      by first | exact ⟨{ Cpu.reset with f := 0xFF }, by decide⟩ | exact ⟨{ Cpu.reset with f := 0x00 }, by decide⟩⟩

-- PortTransfers, BlockInput: an answer in the script, and none
theorem test_met_ports :
    ({ plain [0xDB, 0xFE] with portIn := [0x55] } : State).portIn = 0x55 :: [] ∧ (plain [0xDB,
                               0xFE]).portIn = [] := by
  decide

-- StepRunsDecodedInstruction: without and with a prefix, across the top of memory, from a scripted Step(), behind a hook
-- that passes, and with bytes the host answers
theorem test_met_step :
    decode (answer (plain [0x3E, 0x42]) 0x0100 :: answers 1 (begun (plain [0x3E, 0x42]) [] {} none [])) =
      .ok (.ldRN .a 0x42, []) ∧ isFallback (.ldRN .a 0x42) = false := ⟨rfl, rfl⟩

theorem test_met_step_prefixed :
    decode (answer (plain [0xCB, 0x2D]) 0x0100 :: answers 1 (begun (plain [0xCB, 0x2D]) [] {} none [])) =
      .ok (.sraR .l, []) ∧ isFallback (.sraR .l) = false := ⟨rfl, rfl⟩

def atTop : State := { State.reset with cpu := { Cpu.reset with pc := 0xFFFF }, mem := [(0, 0x42), (0xFFFF, 0x3E)] }

theorem test_met_step_wraps :
    Dispatches atTop [] {} none [] ∧
      decode (answer atTop 0xFFFF :: answers 1 (begun atTop [] {} none [])) = .ok (.ldRN .a 0x42, []) :=
  ⟨⟨.inr ⟨rfl, rfl⟩, rfl, rfl, rfl, .inl ⟨rfl, rfl, rfl, rfl⟩⟩, rfl⟩

/-- A scripted Step() whose hook stores the operand of LD A,n and then reports "not handled". -/
def passed : State :=
  { plain [0x3E, 0x01] with
    calls := [.step, .reset], hook := some [{ handled := false, act := { stores := [(0x0101, 0x42)] } }] }

theorem test_met_step_hooked :
    Dispatches passed [.reset] { stores := [(0x0101, 0x42)] } (some []) [.trapHook 0x0100 0x3E false] ∧
      decode (answer passed 0x0100 :: answers 1
        (begun passed [.reset] { stores := [(0x0101, 0x42)] } (some []) [.trapHook 0x0100 0x3E false])) =
        .ok (.ldRN .a 0x42, []) :=
  ⟨⟨.inl rfl, rfl, rfl, rfl, .inr (.inr ⟨[], rfl, rfl, rfl⟩)⟩, rfl⟩

theorem test_met_step_used_up :
    Dispatches { plain [0x00] with hook := some [] } [] {} (some []) [.trapHook 0x0100 0x00 false] :=
  ⟨.inr ⟨rfl, rfl⟩, rfl, rfl, rfl, .inr (.inl ⟨rfl, rfl, rfl, rfl⟩)⟩

theorem test_met_step_answered :
    let s : State := { plain [] with memHost := [{ answer := some 0x3E }, { answer := some 0x42 }] }
    Dispatches s [] {} none [] ∧
      decode (answer s 0x0100 :: answers 1 (begun s [] {} none [])) = .ok (.ldRN .a 0x42, []) :=
  ⟨⟨.inr ⟨rfl, rfl⟩, rfl, rfl, rfl, .inl ⟨rfl, rfl, rfl, rfl⟩⟩, rfl⟩

-- FallbackRunsUnprefixed: one prefix before an unprefixed opcode, and three, the last of them an indexed form's own
theorem test_met_fallback :
    (0xEB : Byte) ∈ fallbackOpcodes ∧ decode [0xEB] = .ok (.exDeHl, []) ∧ isFallback .exDeHl = false ∧
      answer (plain [0xDD, 0xEB]) 0x0100 :: answers 1 (begun (plain [0xDD, 0xEB]) [] {} none []) =
        [Xy.ix].map Xy.prefixByte ++ [0xEB] := ⟨by decide, rfl, rfl, rfl⟩

theorem test_met_fallback_chain :
    (0xFD : Byte) ∈ fallbackOpcodes ∧ decode [0xFD, 0x23] = .ok (.incXy .iy, []) ∧ isFallback (.incXy .iy) = false ∧
      answer (plain [0xDD, 0xFD, 0xFD, 0x23]) 0x0100 ::
          answers 3 (begun (plain [0xDD, 0xFD, 0xFD, 0x23]) [] {} none []) =
        [Xy.ix, .iy].map Xy.prefixByte ++ [0xFD, 0x23] := ⟨by decide, rfl, rfl, rfl⟩

-- HangsExactlyOnEndlessPrefixes: memory full of prefixes, and memory without one
theorem read_filled (v : Byte) (l : List Nat) (a : Nat) (h : a ∈ l) : Memory.read (l.map fun k => (k, v)) a = v := by
  induction l with
  | nil => cases h
  | cons b l ih =>
    by_cases hb : b = a
    · simp [Memory.read, hb]
    · have : a ∈ l := by simpa [Ne.symm hb] using h
      simp [Memory.read, hb, ih this]

/-- A reset machine whose first `n` bytes of memory are prefixes. -/
def prefixed (n : Nat) : State := { State.reset with mem := (List.range n).map fun k => (k, 0xDD) }

theorem prefixed_byteAt (n : Nat) (a : Word) (h : a.toNat < n) : (prefixed n).byteAt a = 0xDD :=
  read_filled _ _ _ (List.mem_range.mpr h)

theorem prefixed_dispatches (n : Nat) : Dispatches (prefixed n) [] {} none [] :=
  ⟨.inr ⟨rfl, rfl⟩, rfl, rfl, rfl, .inl ⟨rfl, rfl, rfl, rfl⟩⟩

theorem test_met_hang :
    ∃ s, Dispatches s [] {} none [] ∧ s.memHost = [] ∧ s.hook = none ∧
      ∀ a : Word, s.byteAt a = 0xDD ∨ s.byteAt a = 0xFD :=
  ⟨prefixed (2 ^ 16), prefixed_dispatches _, rfl, rfl, fun a => .inl (prefixed_byteAt _ a a.isLt)⟩

theorem test_met_no_hang :
    Dispatches State.reset [] {} none [] ∧ State.reset.memHost = [] ∧ State.reset.hook = none ∧
      ¬ ∀ a : Word, State.reset.byteAt a = 0xDD ∨ State.reset.byteAt a = 0xFD :=
  ⟨⟨.inr ⟨rfl, rfl⟩, rfl, rfl, rfl, .inl ⟨rfl, rfl, rfl, rfl⟩⟩, rfl, rfl, fun h => absurd (h 0) (by decide)⟩

-- HaltedStep, without a script and from one
theorem test_met_halted :
    let s := at100 [0x76] { Cpu.reset with halted := true } []
    StepNext s [] ∧ StepNext { s with calls := [.step, .reset] } [.reset] ∧ s.faultMark = none ∧
      s.refusedMark = none ∧ s.cpu.halted = true :=
  ⟨.inr ⟨rfl, rfl⟩, .inl rfl, rfl, rfl, rfl⟩

-- HandledStep, with a host that writes a record and memory
theorem test_met_handled :
    let act : HostAction := { cpu := some { Cpu.reset with a := 0x42 }, stores := [(0x8000, 0x01)] }
    let s : State := { plain [0x3C] with hook := some [{ handled := true, act := act }] }
    StepNext s [] ∧ s.faultMark = none ∧ s.refusedMark = none ∧ s.cpu.halted = false ∧
      s.hook = some ({ handled := true, act := act } :: []) :=
  ⟨.inr ⟨rfl, rfl⟩, rfl, rfl, rfl, rfl⟩

-- IgnoredRequests: for want of IFF1, and for the EI delay
theorem test_met_ignored :
    let s : State := { plain [] with calls := [.interrupt 0x00] }
    let d : State := { at100 [] { Cpu.reset with iff1 := true, eiDelay := 1 } [] with calls := [.interrupt 0x00] }
    s.faultMark = none ∧ s.refusedMark = none ∧ s.calls = .interrupt 0x00 :: [] ∧ s.cpu.iff1 = false ∧
      d.calls = .interrupt 0x00 :: [] ∧ d.cpu.eiDelay ≠ 0 := by decide

-- AcceptedModes1And2, AcceptedMode0: each mode, and for mode 0 a data byte of either kind
def requested (im : IntMode) : State :=
  { at100 [] { Cpu.reset with iff1 := true, iff2 := true, im := im, sp := 0x0000 } [] with
    calls := [.interrupt 0xFF] }

theorem test_met_accepted (im : IntMode) :
    (requested im).faultMark = none ∧ (requested im).refusedMark = none ∧
      (requested im).calls = .interrupt 0xFF :: [] ∧ (requested im).cpu.eiDelay = 0 ∧
      (requested im).cpu.iff1 = true ∧ (requested im).cpu.im = im := ⟨rfl, rfl, rfl, rfl, rfl, rfl⟩

theorem test_met_admitted :
    decodeBytes 0xFF 0 0 0 = (.rstP 7, 1) ∧ decodeBytes 0x76 0 0 0 = (.halt, 1) ∧ (decodeBytes 0xCD 0 0 0).2 ≠ 1 ∧
      (decodeBytes 0xDD 0 0 0).2 ≠ 1 := by decide

-- EnableTakesEffectLate
theorem test_met_enable :
    let s : State :=
      { at100 [0xFB, 0x00] { Cpu.reset with im := .mode1, sp := 0x8000 } [] with
        calls := [.step, .interrupt 0x00, .step, .interrupt 0x00] }
    s.faultMark = none ∧ s.refusedMark = none ∧ s.hook = none ∧ s.cpu.halted = false ∧ s.cpu.eiDelay = 0 ∧
      s.cpu.iff1 = false ∧ s.cpu.im = .mode1 ∧ answer s s.cpu.pc = 0xFB ∧
      answerAfter s [rd s s.cpu.pc] (s.cpu.pc + 1) = 0x00 ∧
      s.calls = [.step, .interrupt 0x00, .step, .interrupt 0x00] := by decide

-- MarksAreSticky: a fault mark and a refused mark, before a step, an interrupt and a reset
def faulted (calls : List HostCall) : State :=
  { plain [] with faultMark := some { addr := 0x0100, prefixes := [0xED], opcode := 0x00 }, calls := calls }

theorem test_met_marks :
    (faulted []).faultMark = some { addr := 0x0100, prefixes := [0xED], opcode := 0x00 } ∧ (faulted []).calls = [] ∧
      (faulted [.step]).calls = .step :: [] ∧ (faulted [.interrupt 0x01]).calls = .interrupt 0x01 :: [] ∧
      (faulted [.reset]).calls = .reset :: [] ∧
      ({ plain [] with refusedMark := some (.mode0DataNotAdmitted 0xCD) } : State).refusedMark =
        some (.mode0DataNotAdmitted 0xCD) ∧
      ({ plain [] with refusedMark := some (.mode0DataNotAdmitted 0xCD) } : State).faultMark = none := by decide

-- MemoryStaysCanonical, FlipFlopsStayOrdered, CyclesAreAccounted: a state they speak about, and its next state
theorem test_met_invariants :
    let s := at100 [0x36, 0x3C] { Cpu.reset with iff1 := true, iff2 := true, h := 0x80 } [(0x8000, 0x01)]
    s.mem.wf = true ∧ s.mem ≠ [] ∧ (s.cpu.iff1 = true → s.cpu.iff2 = true) ∧ s.hostKeepsCpu = true ∧
      s.calls.head? ≠ some .reset ∧ ∃ t, step s = .next t ∧ t.cpu.pc = 0x0102 := by
  refine ⟨by decide, by decide, by decide, by decide, by decide, ?_⟩
  have h : after (at100 [0x36, 0x3C] { Cpu.reset with iff1 := true, iff2 := true, h := 0x80 } [(0x8000, 0x01)])
      (fun t => t.cpu.pc == 0x0102) = true := by decide
  obtain ⟨t, ht, hc⟩ := next_of_nextAnd h
  exact ⟨t, ht, by simpa using hc⟩

-- SpecialRegistersChangeOnlyByTheirWriters: an instruction that writes one, and one that writes none
theorem test_met_special :
    (isIllegal .ldIA = false ∧ ∃ t, exec .ldIA (plain []) = .next t) ∧
      (isIllegal .cpir = false ∧ ∃ t, exec .cpir (plain []) = .next t) := by
  refine ⟨⟨rfl, ?_⟩, rfl, ?_⟩
  · obtain ⟨t, ht, _⟩ := next_of_nextAnd (r := exec .ldIA (plain [])) (check := fun _ => true) (by decide)
    exact ⟨t, ht⟩
  · obtain ⟨t, ht, _⟩ := next_of_nextAnd (r := exec .cpir (plain [])) (check := fun _ => true) (by decide)
    exact ⟨t, ht⟩

end Sys2Proof.Tests
end

section
/-! The reset call and the values after reset (spec/10_state.md R51, spec/70_reset_and_hazards.md R800). -/

namespace Sys2Proof.Machine

/-- A step with a script performs the script's first call and leaves the others. -/
theorem step_of_calls_cons {s : State} {call : HostCall} {rest : List HostCall} (h : s.calls = call :: rest) :
    step s = perform call { s with calls := rest } := by
  simp only [step, serve, h]

/-- A reset call is never refused and never faults, whatever marks stand (R703, R800). -/
theorem step_of_calls_reset {s : State} {rest : List HostCall} (h : s.calls = .reset :: rest) :
    step s = .next (resetCall { s with calls := rest }) :=
  step_of_calls_cons h

@[simp] theorem resetCall_cpu (s : State) : (resetCall s).cpu = Cpu.reset := rfl
@[simp] theorem resetCall_faultMark (s : State) : (resetCall s).faultMark = none := rfl
@[simp] theorem resetCall_refusedMark (s : State) : (resetCall s).refusedMark = none := rfl
@[simp] theorem resetCall_mem (s : State) : (resetCall s).mem = s.mem := rfl
@[simp] theorem resetCall_bus (s : State) : (resetCall s).bus = [] := rfl
@[simp] theorem resetCall_portIn (s : State) : (resetCall s).portIn = s.portIn := rfl

@[simp] theorem State.reset_cpu : State.reset.cpu = Cpu.reset := rfl
@[simp] theorem State.reset_faultMark : State.reset.faultMark = none := rfl
@[simp] theorem State.reset_refusedMark : State.reset.refusedMark = none := rfl

end Sys2Proof.Machine

namespace Sys2Proof.Claims
open Sys2Proof.Machine

/-- Settles O55: the fields are those of `Cpu.reset`, and a reset call is `resetCall`, which writes that record and
the marks and keeps memory and the prepared port answers. -/
theorem resetValues : Obligations.ResetValues := by
  unfold Obligations.ResetValues
  intro u
  -- the 24 fields and the two marks, in the statement's order
  refine ⟨rfl, rfl, rfl, rfl, rfl, rfl, rfl, rfl, rfl, rfl, rfl, rfl, rfl, rfl, rfl, rfl, rfl, rfl, rfl, rfl, rfl, rfl, rfl,
    rfl, State.reset_faultMark, State.reset_refusedMark, ?_⟩
  intro s rest h
  exact ⟨resetCall { s with calls := rest }, step_of_calls_reset h, by simp [u]⟩

end Sys2Proof.Claims
end

section
/-! The ALU in the integers (spec/40_alu.md R201, R202, R204, R205, R210 to R212). A word is 256 times its high byte
plus its low byte, signed or unsigned, and the carry of the low bytes is the quotient of their operation by 256. So the
operation on the high bytes has the quotient by 256 of the words' operation as its exact result, and its half carry,
carry and overflow are those of the words. -/

namespace Sys2Proof.Machine

-- Bits, values and signs

/-- A bit of a vector is a binary digit of its value. -/
theorem getLsbD_iff_div_mod {w : Nat} (v : BitVec w) (i : Nat) : v.getLsbD i = true ↔ v.toNat / 2 ^ i % 2 = 1 := by
  simp [← BitVec.testBit_toNat, Nat.testBit_eq_decide_div_mod_eq]

theorem beq_zero_iff_toNat {w : Nat} (v : BitVec w) : (v == 0) = true ↔ v.toNat = 0 := by
  simp [← BitVec.toNat_inj]

theorem getLsbD_seven_iff (v : Byte) : v.getLsbD 7 = true ↔ 128 ≤ v.toNat := by
  rw [getLsbD_iff_div_mod]
  omega

theorem getLsbD_seven_eq_iff (u v : Byte) : u.getLsbD 7 = v.getLsbD 7 ↔ (128 ≤ u.toNat ↔ 128 ≤ v.toNat) := by
  rw [Bool.eq_iff_iff, getLsbD_seven_iff, getLsbD_seven_iff]

theorem byte_toInt (v : Byte) : v.toInt = if 128 ≤ v.toNat then (v.toNat : Int) - 256 else v.toNat := by
  rw [BitVec.toInt_eq_toNat_cond]
  split <;> split <;> omega

theorem word_toInt (v : Word) : v.toInt = 256 * (hiByte v).toInt + (loByte v).toNat := by
  rw [BitVec.toInt_eq_toNat_cond, byte_toInt, hiByte_toNat, loByte_toNat]
  split <;> split <;> omega

/-- The upper eight bits of a word are those of its high byte. -/
theorem getLsbD_wordOf_high (hi lo : Byte) (i : Nat) : (wordOf hi lo).getLsbD (i + 8) = hi.getLsbD i := by
  refine BitVec.getLsbD_append.trans ?_
  simp

/-- Sign, bits 13 and 11 and zero of a word that holds an integer modulo 65,536. -/
theorem word_bits_of_toNat_eq {r : Word} {t : Int} (h : (r.toNat : Int) = t % 65536) :
    (r.getLsbD 15 = true ↔ 32768 ≤ t % 65536) ∧ (r.getLsbD 13 = true ↔ t / 8192 % 2 = 1) ∧
      (r.getLsbD 11 = true ↔ t / 2048 % 2 = 1) ∧ ((r == 0) = true ↔ t % 65536 = 0) := by
  simp only [getLsbD_iff_div_mod, beq_zero_iff_toNat]
  refine ⟨?_, ?_, ?_, ?_⟩ <;> omega

-- The 8-bit operations (R201, R202)

theorem add8_toNat (a b : Byte) (c : Bool) :
    (add8 a b c).1.toNat = (a.toNat + b.toNat + c.toNat) % 256 :=
  BitVec.toNat_ofNat ..

theorem sub8_toNat (a b : Byte) (c : Bool) :
    ((sub8 a b c).1.toNat : Int) = ((a.toNat : Int) - b.toNat - c.toNat) % 256 := by
  simp only [sub8, BitVec.toNat_ofInt]
  omega

theorem add8_h_iff (a b : Byte) (c : Bool) :
    (add8 a b c).2.h = true ↔ 15 < a.toNat % 16 + b.toNat % 16 + c.toNat :=
  decide_eq_true_iff

theorem sub8_h_iff (a b : Byte) (c : Bool) :
    (sub8 a b c).2.h = true ↔ a.toNat % 16 < b.toNat % 16 + c.toNat := by
  refine decide_eq_true_iff.trans ?_
  simp only [nibble]
  omega

theorem add8_c_iff (a b : Byte) (c : Bool) : (add8 a b c).2.c = true ↔ 255 < a.toNat + b.toNat + c.toNat :=
  decide_eq_true_iff

theorem sub8_c_iff (a b : Byte) (c : Bool) :
    (sub8 a b c).2.c = true ↔ (a.toNat : Int) - b.toNat - c.toNat < 0 :=
  decide_eq_true_iff

/-- The carry of an addition is the quotient of the sum by 256. -/
theorem add8_carry (a b : Byte) (c : Bool) :
    (add8 a b c).2.c.toNat = (a.toNat + b.toNat + c.toNat) / 256 := by
  have := c.toNat_le
  by_cases h : 255 < a.toNat + b.toNat + c.toNat
  · rw [(add8_c_iff a b c).2 h, Bool.toNat_true]
    omega
  · rw [Bool.eq_false_iff.2 (mt (add8_c_iff a b c).1 h), Bool.toNat_false]
    omega

/-- The borrow of a subtraction is the negated quotient of the difference by 256. -/
theorem sub8_borrow (a b : Byte) (c : Bool) :
    ((sub8 a b c).2.c.toNat : Int) = -(((a.toNat : Int) - b.toNat - c.toNat) / 256) := by
  have := c.toNat_le
  by_cases h : (a.toNat : Int) - b.toNat - c.toNat < 0
  · rw [(sub8_c_iff a b c).2 h, Bool.toNat_true]
    omega
  · rw [Bool.eq_false_iff.2 (mt (sub8_c_iff a b c).1 h), Bool.toNat_false]
    omega

/-- PV of an addition says that the signed sum does not fit in a byte (R222). -/
theorem add8_pv_iff (a b : Byte) (c : Bool) :
    (add8 a b c).2.pv = true ↔ a.toInt + b.toInt + c.toNat < -128 ∨ 127 < a.toInt + b.toInt + c.toNat := by
  have := c.toNat_le
  have hpv : (add8 a b c).2.pv = (a.getLsbD 7 == b.getLsbD 7 && (add8 a b c).1.getLsbD 7 != a.getLsbD 7) := rfl
  simp only [hpv, Bool.and_eq_true, beq_iff_eq, bne_iff_ne, ne_eq, getLsbD_seven_eq_iff, add8_toNat, byte_toInt]
  split <;> split <;> omega

/-- PV of a subtraction says that the signed difference does not fit in a byte (R222). -/
theorem sub8_pv_iff (a b : Byte) (c : Bool) :
    (sub8 a b c).2.pv = true ↔ a.toInt - b.toInt - c.toNat < -128 ∨ 127 < a.toInt - b.toInt - c.toNat := by
  have := c.toNat_le
  have hr := sub8_toNat a b c
  have hpv : (sub8 a b c).2.pv = (a.getLsbD 7 != b.getLsbD 7 && (sub8 a b c).1.getLsbD 7 != a.getLsbD 7) := rfl
  simp only [hpv, Bool.and_eq_true, bne_iff_ne, ne_eq, getLsbD_seven_eq_iff, byte_toInt]
  split <;> split <;> omega

-- The 16-bit operations with carry (R211, R212)

/-- The carry of the low bytes, by which the high bytes' addition is chained to theirs. -/
def lowCarry (x y : Word) (c : Bool) : Bool := (add8 (loByte x) (loByte y) c).2.c

/-- The borrow of the low bytes. -/
def lowBorrow (x y : Word) (c : Bool) : Bool := (sub8 (loByte x) (loByte y) c).2.c

theorem lowCarry_toNat (x y : Word) (c : Bool) :
    (lowCarry x y c).toNat = (x.toNat % 256 + y.toNat % 256 + c.toNat) / 256 := by
  rw [lowCarry, add8_carry, loByte_toNat, loByte_toNat]

theorem lowBorrow_toNat (x y : Word) (c : Bool) :
    ((lowBorrow x y c).toNat : Int) = -(((x.toNat : Int) % 256 - y.toNat % 256 - c.toNat) / 256) := by
  rw [lowBorrow, sub8_borrow, loByte_toNat, loByte_toNat, Int.natCast_emod, Int.natCast_emod]
  rfl

/-- The result joins those of the high and the low bytes, and the flags are those of the high bytes with Z from
the whole result. -/
theorem adc16_eq (x y : Word) (c : Bool) :
    adc16 x y c =
      let hi := add8 (hiByte x) (hiByte y) (lowCarry x y c)
      let r := wordOf hi.1 (add8 (loByte x) (loByte y) c).1
      (r, { hi.2 with z := r == 0 }) := rfl

theorem sbc16_eq (x y : Word) (c : Bool) :
    sbc16 x y c =
      let hi := sub8 (hiByte x) (hiByte y) (lowBorrow x y c)
      let r := wordOf hi.1 (sub8 (loByte x) (loByte y) c).1
      (r, { hi.2 with z := r == 0 }) := rfl

theorem adc16_toNat (x y : Word) (c : Bool) :
    (adc16 x y c).1.toNat = (x.toNat + y.toNat + c.toNat) % 65536 := by
  have hcarry := lowCarry_toNat x y c
  simp only [adc16_eq, wordOf_toNat, add8_toNat, hiByte_toNat, loByte_toNat]
  omega

theorem sbc16_toNat (x y : Word) (c : Bool) :
    ((sbc16 x y c).1.toNat : Int) = ((x.toNat : Int) - y.toNat - c.toNat) % 65536 := by
  have hborrow := lowBorrow_toNat x y c
  have hhi := sub8_toNat (hiByte x) (hiByte y) (lowBorrow x y c)
  have hlo := sub8_toNat (loByte x) (loByte y) c
  rw [hiByte_toNat, hiByte_toNat] at hhi
  rw [loByte_toNat, loByte_toNat] at hlo
  simp only [sbc16_eq, wordOf_toNat]
  omega

/-- S, 5, 3 and Z of an addition with carry are read off the 16-bit result. -/
theorem adc16_result_flags (x y : Word) (c : Bool) :
    let r := (adc16 x y c).1
    let g := (adc16 x y c).2
    g.s = r.getLsbD 15 ∧ g.f5 = r.getLsbD 13 ∧ g.f3 = r.getLsbD 11 ∧ g.z = (r == 0) :=
  ⟨(getLsbD_wordOf_high _ _ 7).symm, (getLsbD_wordOf_high _ _ 5).symm, (getLsbD_wordOf_high _ _ 3).symm, rfl⟩

theorem sbc16_result_flags (x y : Word) (c : Bool) :
    let r := (sbc16 x y c).1
    let g := (sbc16 x y c).2
    g.s = r.getLsbD 15 ∧ g.f5 = r.getLsbD 13 ∧ g.f3 = r.getLsbD 11 ∧ g.z = (r == 0) :=
  ⟨(getLsbD_wordOf_high _ _ 7).symm, (getLsbD_wordOf_high _ _ 5).symm, (getLsbD_wordOf_high _ _ 3).symm, rfl⟩

/-- H of an addition with carry is the carry out of bit 11. -/
theorem adc16_h_iff (x y : Word) (c : Bool) :
    (adc16 x y c).2.h = true ↔ 4095 < x.toNat % 4096 + y.toNat % 4096 + c.toNat := by
  have hcarry := lowCarry_toNat x y c
  simp only [adc16_eq, add8_h_iff, hiByte_toNat]
  omega

/-- H of a subtraction with carry is the borrow out of bit 11. -/
theorem sbc16_h_iff (x y : Word) (c : Bool) :
    (sbc16 x y c).2.h = true ↔ x.toNat % 4096 < y.toNat % 4096 + c.toNat := by
  have hborrow := lowBorrow_toNat x y c
  simp only [sbc16_eq, sub8_h_iff, hiByte_toNat]
  omega

theorem adc16_c_iff (x y : Word) (c : Bool) : (adc16 x y c).2.c = true ↔ 65535 < x.toNat + y.toNat + c.toNat := by
  have hcarry := lowCarry_toNat x y c
  simp only [adc16_eq, add8_c_iff, hiByte_toNat]
  omega

theorem sbc16_c_iff (x y : Word) (c : Bool) :
    (sbc16 x y c).2.c = true ↔ (x.toNat : Int) - y.toNat - c.toNat < 0 := by
  have hborrow := lowBorrow_toNat x y c
  simp only [sbc16_eq, sub8_c_iff, hiByte_toNat]
  omega

theorem adc16_pv_iff (x y : Word) (c : Bool) :
    (adc16 x y c).2.pv = true ↔
      x.toInt + y.toInt + c.toNat < -32768 ∨ 32767 < x.toInt + y.toInt + c.toNat := by
  have hcarry := lowCarry_toNat x y c
  simp only [adc16_eq, add8_pv_iff, word_toInt x, word_toInt y, loByte_toNat]
  omega

theorem sbc16_pv_iff (x y : Word) (c : Bool) :
    (sbc16 x y c).2.pv = true ↔
      x.toInt - y.toInt - c.toNat < -32768 ∨ 32767 < x.toInt - y.toInt - c.toNat := by
  have hborrow := lowBorrow_toNat x y c
  simp only [sbc16_eq, sub8_pv_iff, word_toInt x, word_toInt y, loByte_toNat]
  omega

/-- Addition without carry is addition of carry 0 that leaves S, Z and PV as they were (R210). -/
theorem add16_eq_adc16 (x y : Word) (g : Flags) :
    add16 x y g =
      ((adc16 x y false).1, { (adc16 x y false).2 with s := g.s, z := g.z, pv := g.pv }) := rfl

-- Compare and increment (R204, R205)

theorem inc8_toNat (a : Byte) (g : Flags) : (inc8 a g).1.toNat = (a.toNat + 1) % 256 :=
  BitVec.toNat_add ..

/-- S, Z, 5 and 3 of an increment are read off the result. -/
theorem inc8_result_flags (a : Byte) (g : Flags) :
    let r := inc8 a g
    r.2.s = r.1.getLsbD 7 ∧ r.2.z = (r.1 == 0) ∧ r.2.f5 = r.1.getLsbD 5 ∧ r.2.f3 = r.1.getLsbD 3 :=
  ⟨rfl, rfl, rfl, rfl⟩

end Sys2Proof.Machine

namespace Sys2Proof.Claims
open Sys2Proof.Machine

/-- Settles O42: result and flags are those of the two chained 8-bit operations, lifted to the words. -/
theorem wordCarryInIntegers : Obligations.WordCarryInIntegers := by
  unfold Obligations.WordCarryInIntegers
  intro x y c
  have hadd : ((adc16 x y c).1.toNat : Int) = ((x.toNat : Int) + y.toNat + c.toNat) % 65536 :=
    mod_cast adc16_toNat x y c
  have haddC : (adc16 x y c).2.c = true ↔ (65535 : Int) < (x.toNat : Int) + y.toNat + c.toNat :=
    mod_cast adc16_c_iff x y c
  have hsub := sbc16_toNat x y c
  obtain ⟨addS, add5, add3, addZ⟩ := adc16_result_flags x y c
  obtain ⟨subS, sub5, sub3, subZ⟩ := sbc16_result_flags x y c
  obtain ⟨t15, t13, t11, t0⟩ := word_bits_of_toNat_eq hadd
  obtain ⟨d15, d13, d11, d0⟩ := word_bits_of_toNat_eq hsub
  exact ⟨⟨hadd, addS ▸ t15, addZ ▸ t0, add5 ▸ t13, add3 ▸ t11, adc16_h_iff x y c, adc16_pv_iff x y c, rfl,
      haddC⟩,
    ⟨hsub, subS ▸ d15, subZ ▸ d0, sub5 ▸ d13, sub3 ▸ d11, sbc16_h_iff x y c, sbc16_pv_iff x y c, rfl,
      sbc16_c_iff x y c⟩⟩

/-- Settles O41: the flags other than S, Z and PV are those of the addition with carry 0. -/
theorem wordAddClosedForm : Obligations.WordAddClosedForm := by
  unfold Obligations.WordAddClosedForm
  intro x y g
  have hadd : (adc16 x y false).1.toNat = (x.toNat + y.toNat) % 65536 := adc16_toNat x y false
  obtain ⟨-, add5, add3, -⟩ := adc16_result_flags x y false
  obtain ⟨-, t13, t11, -⟩ := word_bits_of_toNat_eq (t := (x.toNat + y.toNat : Nat)) (mod_cast hadd)
  rw [add16_eq_adc16]
  exact ⟨hadd, adc16_h_iff x y false, adc16_c_iff x y false, add5 ▸ mod_cast t13, add3 ▸ mod_cast t11, rfl, rfl, rfl,
    rfl⟩

/-- Settles O39: compare by definition, increment flag by flag from its result. -/
theorem compareAndIncrementFlags : Obligations.CompareAndIncrementFlags := by
  unfold Obligations.CompareAndIncrementFlags
  refine ⟨fun a b g => ⟨rfl, rfl⟩, ?_⟩
  intro a g r
  have hr : r.1.toNat = (a.toNat + 1) % 256 := inc8_toNat a g
  obtain ⟨hs, hz, h5, h3⟩ := inc8_result_flags a g
  refine ⟨hr, ?_, ?_, ?_, ?_, ?_, ?_, rfl, rfl⟩
  · rw [hs, getLsbD_seven_iff, hr]
  · rw [hz, beq_zero_iff_toNat, hr]
    omega
  · rw [h5, getLsbD_iff_div_mod, hr]
    omega
  · exact beq_iff_eq
  · rw [h3, getLsbD_iff_div_mod, hr]
    omega
  · exact beq_iff_eq.trans (BitVec.toNat_inj (y := 0x7F)).symm

end Sys2Proof.Claims
end

section
/-! Decoding and encoding (spec/30_encoding.md). -/

namespace Sys2Proof

-- An opcode byte and its fields (R101), and the operand codes (R48)

@[simp] theorem fieldX_xyz (x : BitVec 2) (y z : BitVec 3) : fieldX (xyz x y z) = x.toNat := by
  revert x y z
  decide

@[simp] theorem fieldY_xyz (x : BitVec 2) (y z : BitVec 3) : fieldY (xyz x y z) = y := by
  revert x y z
  decide

@[simp] theorem fieldZ_xyz (x : BitVec 2) (y z : BitVec 3) : fieldZ (xyz x y z) = z := by
  revert x y z
  decide

@[simp] theorem R8.ofCode_code (r : R8) : R8.ofCode r.code = some r := by cases r <;> rfl

@[simp] theorem R8.ofCode_six : R8.ofCode 6#3 = none := rfl

-- Encoding, then decoding

/-- An instruction of one byte is read at the head of a list, whatever follows it. -/
theorem decode_one {b0 : Byte} {i : Instr} (h : ∀ b1 b2 b3, decodeBytes b0 b1 b2 b3 = (i, 1)) (rest : List Byte) :
    decode ([b0] ++ rest) = .ok (i, rest) := by
  simp [decode, h]

/-- An instruction of two bytes. -/
theorem decode_two {b0 b1 : Byte} {i : Instr} (h : ∀ b2 b3, decodeBytes b0 b1 b2 b3 = (i, 2)) (rest : List Byte) :
    decode ([b0, b1] ++ rest) = .ok (i, rest) := by
  simp [decode, h]

/-- An instruction of three bytes. -/
theorem decode_three {b0 b1 b2 : Byte} {i : Instr} (h : ∀ b3, decodeBytes b0 b1 b2 b3 = (i, 3)) (rest : List Byte) :
    decode ([b0, b1, b2] ++ rest) = .ok (i, rest) := by
  simp [decode, h]

/-- An instruction of four bytes. -/
theorem decode_four {b0 b1 b2 b3 : Byte} {i : Instr} (h : decodeBytes b0 b1 b2 b3 = (i, 4)) (rest : List Byte) :
    decode ([b0, b1, b2, b3] ++ rest) = .ok (i, rest) := by
  simp [decode, h]

/-- A word operand is read back from its two bytes. -/
theorem decode_word {d : Instr × Nat} {n : Nat} (f : Word → Instr) (w : Word)
    (h : d = (f (wordOf (hiByte w) (loByte w)), n)) : d = (f w, n) := by
  rw [h, Machine.wordOf_hiByte_loByte]

theorem decodeBytes_rst (p : BitVec 3) (b1 b2 b3 : Byte) : decodeBytes (xyz 3 p 7) b1 b2 b3 = (.rstP p, 1) := by
  simp [decodeBytes, decodeQuarter3]

/-- The bytes behind one of the prefixes are read by its own table. -/
theorem decodeBytes_cb (b1 b2 b3 : Byte) : decodeBytes 0xCB b1 b2 b3 = decodeCb b1 := rfl

theorem decodeBytes_ed (b1 b2 b3 : Byte) : decodeBytes 0xED b1 b2 b3 = decodeEd b1 b2 b3 := rfl

theorem decodeBytes_xy (x : Xy) (b1 b2 b3 : Byte) : decodeBytes x.prefixByte b1 b2 b3 = decodeXy x b1 b2 b3 := by
  cases x <;> rfl

theorem decodeBytes_cb_bit (b : BitVec 3) (r : R8) (b2 b3 : Byte) :
    decodeBytes 0xCB (xyz 1 b r.code) b2 b3 = (.bitBR b r, 2) ∧
      decodeBytes 0xCB (xyz 1 b 6) b2 b3 = (.bitBMhl b, 2) := by
  rw [decodeBytes_cb, decodeBytes_cb]
  simp [decodeCb]

theorem decodeBytes_cb_res (b : BitVec 3) (r : R8) (b2 b3 : Byte) :
    decodeBytes 0xCB (xyz 2 b r.code) b2 b3 = (.resBR b r, 2) ∧
      decodeBytes 0xCB (xyz 2 b 6) b2 b3 = (.resBMhl b, 2) := by
  rw [decodeBytes_cb, decodeBytes_cb]
  simp [decodeCb]

theorem decodeBytes_cb_set (b : BitVec 3) (r : R8) (b2 b3 : Byte) :
    decodeBytes 0xCB (xyz 3 b r.code) b2 b3 = (.setBR b r, 2) ∧
      decodeBytes 0xCB (xyz 3 b 6) b2 b3 = (.setBMhl b, 2) := by
  rw [decodeBytes_cb, decodeBytes_cb]
  simp [decodeCb]

theorem decodeBytes_xyCb_bit (x : Xy) (d : Byte) (b z : BitVec 3) :
    decodeBytes x.prefixByte 0xCB d (xyz 1 b z) = (.bitBMxyd x d b z, 4) := by
  simp [decodeBytes_xy, decodeXy, decodeXyCb]

theorem decodeBytes_xyCb_res (x : Xy) (d : Byte) (b : BitVec 3) (r : R8) :
    decodeBytes x.prefixByte 0xCB d (xyz 2 b r.code) = (.resBMxydR x d b r, 4) ∧
      decodeBytes x.prefixByte 0xCB d (xyz 2 b 6) = (.resBMxyd x d b, 4) := by
  simp [decodeBytes_xy, decodeXy, decodeXyCb]

theorem decodeBytes_xyCb_set (x : Xy) (d : Byte) (b : BitVec 3) (r : R8) :
    decodeBytes x.prefixByte 0xCB d (xyz 3 b r.code) = (.setBMxydR x d b r, 4) ∧
      decodeBytes x.prefixByte 0xCB d (xyz 3 b 6) = (.setBMxyd x d b, 4) := by
  simp [decodeBytes_xy, decodeXy, decodeXyCb]

theorem decodeBytes_of_isIllegalEd {op : Byte} (h : isIllegalEd op = true) (lo hi : Byte) :
    decodeBytes 0xED op lo hi = (.illegalEd op, 2) := by
  have key : ∀ op, isIllegalEd op = true → decodeEd op 0 0 = (.illegalEd op, 2) := by decide
  rw [decodeBytes_ed, ← key op h]
  exact (decodeEd_short (by rw [key op h]; exact (by decide : 2 ≤ 3)) lo hi).symm

theorem decodeBytes_of_fallback {op : Byte} (h : op ∈ fallbackOpcodes) (x : Xy) (b2 b3 : Byte) :
    decodeBytes x.prefixByte op b2 b3 = (.xyFallback x op, 2) := by
  have key : ∀ op ∈ fallbackOpcodes, decodeXy x op 0 0 = (.xyFallback x op, 2) := by cases x <;> decide
  rw [decodeBytes_xy, ← key op h]
  exact (decodeXy_two (by rw [key op h]) b2 b3).symm

/-- A well-formed instruction is read from its own bytes, whatever follows them: by constructor, a register, pair or
condition operand at each of its values. -/
theorem decode_encode (i : Instr) (rest : List Byte) (h : i.wellFormed = true) :
    decode (encode i ++ rest) = .ok (i, rest) := by
  cases i with
  | nop | exAfAf | ldMbcA | ldMdeA | ldAMbc | ldAMde | incMhl | decMhl | rlca | rrca | rla | rra | daa | cpl
  | scf | ccf | halt | addAMhl | adcAMhl | subMhl | sbcAMhl | andMhl | xorMhl | orMhl | cpMhl | ret | exx | jpHl
  | ldSpHl | exMspHl | exDeHl | di | ei => exact decode_one (fun _ _ _ => rfl) rest
  | rlcMhl | rrcMhl | rlMhl | rrMhl | slaMhl | sraMhl | sllMhl | srlMhl | illegalEd70 | illegalEd71 | neg | retn
  | reti | im0 | im1 | im2 | ldIA | ldRA | ldAI | ldAR | rrd | rld | ldi | cpi | ini | outi | ldd | cpd | ind
  | outd | ldir | cpir | inir | otir | lddr | cpdr | indr | otdr | djnz e | jr e | ldMhlN n | addAN n | adcAN n
  | subN n | sbcAN n | andN n | xorN n | orN n | cpN n | outMnA n | inAMn n =>
    exact decode_two (fun _ _ => rfl) rest
  | incR r | decR r | ldRMhl r | ldMhlR r | addAR r | adcAR r | subR r | sbcAR r | andR r | xorR r | orR r
  | cpR r => cases r <;> exact decode_one (fun _ _ _ => rfl) rest
  | rlcR r | rrcR r | rlR r | rrR r | slaR r | sraR r | sllR r | srlR r | inRMc r | outMcR r | ldRN r n =>
    cases r <;> exact decode_two (fun _ _ => rfl) rest
  | ldRR r r' => cases r <;> cases r' <;> exact decode_one (fun _ _ _ => rfl) rest
  | addHlRp p | incRp p | decRp p | popRp2 p | pushRp2 p =>
    cases p <;> exact decode_one (fun _ _ _ => rfl) rest
  | sbcHlRp p | adcHlRp p => cases p <;> exact decode_two (fun _ _ => rfl) rest
  | retCc cc => cases cc <;> exact decode_one (fun _ _ _ => rfl) rest
  | jrCc cc e =>
    cases cc with
    | nz | z | nc | c => exact decode_two (fun _ _ => rfl) rest
    | po | pe | p | m => exact Bool.noConfusion h
  | ldMnnHl nn => exact decode_three (fun _ => decode_word .ldMnnHl nn rfl) rest
  | ldMnnA nn => exact decode_three (fun _ => decode_word .ldMnnA nn rfl) rest
  | ldHlMnn nn => exact decode_three (fun _ => decode_word .ldHlMnn nn rfl) rest
  | ldAMnn nn => exact decode_three (fun _ => decode_word .ldAMnn nn rfl) rest
  | jpNn nn => exact decode_three (fun _ => decode_word .jpNn nn rfl) rest
  | callNn nn => exact decode_three (fun _ => decode_word .callNn nn rfl) rest
  | ldRpNn p nn => cases p <;> exact decode_three (fun _ => decode_word (.ldRpNn _) nn rfl) rest
  | ldMnnRp p nn => cases p <;> exact decode_four (decode_word (.ldMnnRp _) nn rfl) rest
  | ldRpMnn p nn => cases p <;> exact decode_four (decode_word (.ldRpMnn _) nn rfl) rest
  | jpCcNn cc nn => cases cc <;> exact decode_three (fun _ => decode_word (.jpCcNn _) nn rfl) rest
  | callCcNn cc nn => cases cc <;> exact decode_three (fun _ => decode_word (.callCcNn _) nn rfl) rest
  | ldXyNn x nn => cases x <;> exact decode_four (decode_word (.ldXyNn _) nn rfl) rest
  | ldMnnXy x nn => cases x <;> exact decode_four (decode_word (.ldMnnXy _) nn rfl) rest
  | ldXyMnn x nn => cases x <;> exact decode_four (decode_word (.ldXyMnn _) nn rfl) rest
  | rstP p => exact decode_one (decodeBytes_rst p) rest
  | bitBR b r => exact decode_two (fun _ _ => (decodeBytes_cb_bit b r _ _).1) rest
  | bitBMhl b => exact decode_two (fun _ _ => (decodeBytes_cb_bit b .a _ _).2) rest
  | resBR b r => exact decode_two (fun _ _ => (decodeBytes_cb_res b r _ _).1) rest
  | resBMhl b => exact decode_two (fun _ _ => (decodeBytes_cb_res b .a _ _).2) rest
  | setBR b r => exact decode_two (fun _ _ => (decodeBytes_cb_set b r _ _).1) rest
  | setBMhl b => exact decode_two (fun _ _ => (decodeBytes_cb_set b .a _ _).2) rest
  | incXy x | decXy x | incXyh x | decXyh x | incXyl x | decXyl x | ldBXyh x | ldBXyl x | ldCXyh x | ldCXyl x
  | ldDXyh x | ldDXyl x | ldEXyh x | ldEXyl x | ldXyhB x | ldXyhC x | ldXyhD x | ldXyhE x | ldXyhXyh x
  | ldXyhXyl x | ldXyhA x | ldXylB x | ldXylC x | ldXylD x | ldXylE x | ldXylXyh x | ldXylXyl x | ldXylA x
  | ldAXyh x | ldAXyl x | addAXyh x | addAXyl x | adcAXyh x | adcAXyl x | subXyh x | subXyl x | sbcAXyh x
  | sbcAXyl x | andXyh x | andXyl x | xorXyh x | xorXyl x | orXyh x | orXyl x | cpXyh x | cpXyl x | popXy x
  | exMspXy x | pushXy x | jpXy x | ldSpXy x => cases x <;> exact decode_two (fun _ _ => rfl) rest
  | ldXyhN x n | ldXylN x n | incMxyd x d | decMxyd x d | ldBMxyd x d | ldCMxyd x d | ldDMxyd x d | ldEMxyd x d
  | ldHMxyd x d | ldLMxyd x d | ldMxydB x d | ldMxydC x d | ldMxydD x d | ldMxydE x d | ldMxydH x d
  | ldMxydL x d | ldMxydA x d | ldAMxyd x d | addAMxyd x d | adcAMxyd x d | subMxyd x d | sbcAMxyd x d
  | andMxyd x d | xorMxyd x d | orMxyd x d | cpMxyd x d => cases x <;> exact decode_three (fun _ => rfl) rest
  | rlcMxyd x d | rrcMxyd x d | rlMxyd x d | rrMxyd x d | slaMxyd x d | sraMxyd x d | sllMxyd x d | srlMxyd x d
  | ldMxydN x d n => cases x <;> exact decode_four rfl rest
  | addXyPp x p => cases x <;> cases p <;> exact decode_two (fun _ _ => rfl) rest
  | rlcMxydR x d r | rrcMxydR x d r | rlMxydR x d r | rrMxydR x d r | slaMxydR x d r | sraMxydR x d r
  | sllMxydR x d r | srlMxydR x d r => cases x <;> cases r <;> exact decode_four rfl rest
  | bitBMxyd x d b z => exact decode_four (decodeBytes_xyCb_bit _ d b z) rest
  | resBMxydR x d b r => exact decode_four (decodeBytes_xyCb_res _ d b r).1 rest
  | resBMxyd x d b => exact decode_four (decodeBytes_xyCb_res _ d b .a).2 rest
  | setBMxydR x d b r => exact decode_four (decodeBytes_xyCb_set _ d b r).1 rest
  | setBMxyd x d b => exact decode_four (decodeBytes_xyCb_set _ d b .a).2 rest
  | illegalEd op => exact decode_two (decodeBytes_of_isIllegalEd h) rest
  | xyFallback x op => exact decode_two (decodeBytes_of_fallback (List.contains_iff_mem.mp h) x) rest

end Sys2Proof

namespace Sys2Proof.Claims
open Sys2Proof.Machine

/-- Settles O2: an instruction is read from its own bytes, constructor by constructor. -/
theorem decodeOfEncode : Obligations.DecodeOfEncode := by
  unfold Obligations.DecodeOfEncode
  exact decode_encode

end Sys2Proof.Claims
end

section
/-! What a call of the host can do, said once (spec/60_exceptions.md R721), and the invariants of every step. -/

namespace Sys2Proof.Machine
open Sys2Proof.Claims

-- Pops of PC, which are 16-bit reads of the stack (R73, R75)

@[simp] theorem State.memRead16_fst (s : State) (a : Word) :
    (s.memRead16 a).1 = wordOf ((s.memRead a).2.answerAt (a + 1)) (s.answerAt a) := rfl

@[simp] theorem State.memRead16_snd (s : State) (a : Word) :
    (s.memRead16 a).2 = ((s.memRead a).2.memRead (a + 1)).2 := rfl

theorem popPc_eq (s : State) :
    s.popPc =
      (s.memRead16 s.cpu.sp).2.onCpu fun u => { u with sp := u.sp + 2, pc := (s.memRead16 s.cpu.sp).1 } := by
  rw [State.popPc, pop_eq]
  rfl

theorem returnFromInterrupt_eq (s : State) :
    s.returnFromInterrupt =
      (s.memRead16 s.cpu.sp).2.onCpu fun u =>
        { u with sp := u.sp + 2, pc := (s.memRead16 s.cpu.sp).1, iff1 := u.iff2 } := by
  rw [State.returnFromInterrupt, popPc_eq]
  rfl

-- One instruction

/-- What `exec` can answer: the illegal-opcode exception, a fallback, or a completed instruction. -/
theorem exec_next_cases {i : Instr} {s t : State} (h : exec i s = .next t) :
    (∃ op, isIllegal i = true ∧ t = s.raiseIllegal op) ∨
      (∃ x op, i = .xyFallback x op ∧
        t = { s with delta := s.delta + 4, chain := s.chain ++ [x.prefixByte], pending := some op }) ∨
      (isIllegal i = false ∧ isFallback i = false ∧ Completes s (t.delta - s.delta) (exec i s)) := by
  by_cases hi : isIllegal i = true
  · unfold isIllegal at hi
    split at hi
    · cases h; exact .inl ⟨_, rfl, rfl⟩
    · cases h; exact .inl ⟨_, rfl, rfl⟩
    · cases h; exact .inl ⟨_, rfl, rfl⟩
    · exact absurd hi Bool.false_ne_true
  by_cases hf : isFallback i = true
  · unfold isFallback at hf
    split at hf
    · cases h; exact .inr (.inl ⟨_, _, rfl, rfl⟩)
    · exact absurd hf Bool.false_ne_true
  obtain ⟨k, hk⟩ := exec_completes i s (by rintro op rfl; exact hi rfl) (by rintro rfl; exact hi rfl)
    (by rintro rfl; exact hi rfl) (by rintro x op rfl; exact hf rfl)
  refine .inr (.inr ⟨by simpa using hi, by simpa using hf, ?_⟩)
  obtain ⟨t', ht', hd, hrest⟩ := hk
  cases h.symm.trans ht'
  exact ⟨t, h, by omega, hrest⟩

/-- The special registers change by their own instructions alone (spec/10_state.md section 4). -/
theorem exec_special_registers {i : Instr} {s t : State} (hi : isIllegal i = false) (h : exec i s = .next t) :
    (i ≠ .ldIA → t.cpu.i = s.cpu.i) ∧ (i ≠ .ldRA → t.cpu.r = s.cpu.r) ∧
    (i ∉ [Instr.im0, .im1, .im2] → t.cpu.im = s.cpu.im) ∧ (i ≠ .halt → t.cpu.halted = s.cpu.halted) ∧
    (i ∉ [Instr.ei, .di] → t.cpu.eiDelay = s.cpu.eiDelay) ∧
    (i ∉ [Instr.di, .reti, .retn] → t.cpu.iff1 = s.cpu.iff1) ∧ (i ≠ .di → t.cpu.iff2 = s.cpu.iff2) ∧
    (i ≠ .exAfAf → t.cpu.afShadow = s.cpu.afShadow) ∧
    (i ≠ .exx → t.cpu.bcShadow = s.cpu.bcShadow ∧ t.cpu.deShadow = s.cpu.deShadow ∧
      t.cpu.hlShadow = s.cpu.hlShadow) ∧
    t.cpu.cycles = s.cpu.cycles ∧ t.params = s.params ∧ t.faultMark = s.faultMark ∧
    t.refusedMark = s.refusedMark ∧ t.calls = s.calls ∧ t.hook = s.hook := by
  cases hs : Instr.isSpecial i
  · obtain ⟨k, t', ht', -, -, ⟨hf, hr, hp, hc, hh, -⟩, a1, a2, a3, a4, a5, a6, a7, a8, a9, a10, a11, a12⟩ :=
      exec_plain i s hs
    cases h.symm.trans ht'
    exact ⟨fun _ => a1, fun _ => a2, fun _ => a3, fun _ => a4, fun _ => a5, fun _ => a6, fun _ => a7, fun _ => a8,
      fun _ => ⟨a9, a10, a11⟩, a12, hp, hf, hr, hc, hh⟩
  · unfold Instr.isSpecial at hs
    split at hs
    case h_5 | h_6 | h_15 => exact Bool.noConfusion hi  -- the illegal rows
    case h_13 | h_14 => cases h; simp [returnFromInterrupt_eq]
    case h_17 => exact absurd hs Bool.false_ne_true
    all_goals cases h; simp

/-- IFF1 implies IFF2. -/
def Cpu.FlipFlopsOrdered (u : Cpu) : Prop := u.iff1 = true → u.iff2 = true

/-- No instruction leaves IFF1 set and IFF2 clear: DI clears both, RETI and RETN copy, the others leave them. -/
theorem exec_flipFlopsOrdered {i : Instr} {s t : State} (hi : isIllegal i = false) (h : exec i s = .next t)
    (ho : s.cpu.FlipFlopsOrdered) : t.cpu.FlipFlopsOrdered := by
  obtain ⟨-, -, -, -, -, h1, h2, -⟩ := exec_special_registers hi h
  by_cases hdi : i = .di
  · subst hdi; cases h
    exact fun e => Bool.noConfusion e
  by_cases hret : i = .reti ∨ i = .retn
  · rcases hret with rfl | rfl <;> cases h <;> exact id
  rw [not_or] at hret
  unfold Cpu.FlipFlopsOrdered
  rwa [h1 (by simp [hdi, hret]), h2 hdi]

-- The loop of one step

/-- What `execPrimary` keeps: a property `I` that fetches and fallbacks keep, and `Q` of every instruction's end. -/
theorem execPrimary_induction {I Q : State → Prop} (hfetch : ∀ s op, I s → I (s.fetchInstr op).2)
    (hend : ∀ i s t, I s → exec i s = .next t → t.pending = none → Q t)
    (hfall : ∀ i s t op, I s → exec i s = .next t → t.pending = some op → I { t with pending := none })
    {fuel : Nat} {op : Byte} {s t : State} (hs : I s) (h : execPrimary fuel op s = .next t) : Q t := by
  induction fuel generalizing op s with
  | zero => exact nomatch h
  | succ fuel ih =>
    have hf := hfetch s op hs
    obtain ⟨u, hu⟩ := exec_next (s.fetchInstr op).1 (s.fetchInstr op).2
    simp only [execPrimary, hu] at h
    cases hp : u.pending with
    | none =>
      rw [hp] at h
      cases h
      exact hend _ _ _ hf hu hp
    | some op' =>
      rw [hp] at h
      exact ih (hfall _ _ _ _ hf hu hp) h

-- The calls of the host

/-- The hook's answer for the instruction at PC, and the state after the read of its first byte and the consultation. -/
def consulted (b : State) : Bool × State := consultHook b.cpu.pc (b.answerAt b.cpu.pc) (b.memRead b.cpu.pc).2

theorem consulted_of_none {b : State} (h : b.hook = none) : consulted b = (false, (b.memRead b.cpu.pc).2) := by
  simp only [consulted, consultHook, State.memRead_snd_hook, h]

theorem consulted_of_nil {b : State} (h : b.hook = some []) :
    consulted b =
      (false, (b.memRead b.cpu.pc).2.logged (.trapHook b.cpu.pc (b.answerAt b.cpu.pc) false)) := by
  simp only [consulted, consultHook, State.memRead_snd_hook, h]

theorem consulted_of_cons {b : State} {ans : HookAnswer} {later : List HookAnswer}
    (h : b.hook = some (ans :: later)) :
    consulted b =
      (ans.handled,
        applyAction ans.act
          ({ (b.memRead b.cpu.pc).2 with hook := some later }.logged
            (.trapHook b.cpu.pc (b.answerAt b.cpu.pc) ans.handled))) := by
  simp only [consulted, consultHook, State.memRead_snd_hook, h]

/-- PC and R past the first byte of an instruction. -/
def State.pastOpcode (s : State) : State := s.onCpu fun u => { u with pc := u.pc + 1, r := incR u.r }

theorem dispatchStep_eq (b : State) :
    dispatchStep b =
      if (consulted b).1 then .next (consulted b).2
      else execPrimary (chainBound (consulted b).2) (b.answerAt b.cpu.pc) (consulted b).2.pastOpcode := rfl

/-- What a dispatched step can have done up to its end: the hook handled the instruction, or one was executed. -/
theorem dispatchStep_next_cases {b t : State} (h : dispatchStep b = .next t) :
    t = (consulted b).2 ∨
      execPrimary (chainBound (consulted b).2) (b.answerAt b.cpu.pc) (consulted b).2.pastOpcode = .next t := by
  rw [dispatchStep_eq] at h
  split at h
  · cases h; exact .inl rfl
  · exact .inr h

/-- What a call can have done that answers a next state: `b` is the state at its start. -/
inductive CallEnds (s b : State) : State → Prop
  | reset (h : s.calls.head? = some .reset) : CallEnds s b (resetCall b)
  | acted (act : HostAction) (h : .act act ∈ s.calls) : CallEnds s b (applyAction act b)
  | halted (h : s.faultMark = none) : CallEnds s b (endStep (haltedNop b))
  | stepped (u : State) (hf : s.faultMark = none) (h : dispatchStep b = .next u) : CallEnds s b (endStep u)
  | ignored : CallEnds s b b
  | refused (data : Byte) : CallEnds s b { b with refusedMark := some (.mode0DataNotAdmitted data) }
  | mode0 (data : Byte) (u : State) (hf : s.faultMark = none) (ha : admitted data = true)
      (h : Machine.mode0 data b.acknowledge = .next u) : CallEnds s b (addCycles u)
  | mode1 (hf : s.faultMark = none) : CallEnds s b (addCycles b.acknowledge.takeMode1)
  | mode2 (data : Byte) (hf : s.faultMark = none) : CallEnds s b (addCycles (b.acknowledge.takeMode2 data))

theorem andThen_eq_next {r : Res} {k : State → State} {t : State} (h : andThen r k = .next t) :
    ∃ u, r = .next u ∧ t = k u := by
  cases r with
  | next u => cases h; exact ⟨u, rfl, rfl⟩
  | fault _ | refused _ => exact nomatch h

theorem unlessMarked_eq_next {s t : State} {call : State → Res} (h : unlessMarked s call = .next t) :
    s.faultMark = none ∧ s.refusedMark = none ∧ call s = .next t := by
  unfold unlessMarked at h
  split at h
  · exact nomatch h
  · split at h
    · exact nomatch h
    · exact ⟨‹_›, ‹_›, h⟩

theorem stepCall_ends {s t : State} {rest : List HostCall} (h : stepCall { s with calls := rest } = .next t) :
    CallEnds s (fresh s rest) t := by
  obtain ⟨hf, -, h⟩ := unlessMarked_eq_next h
  simp only at h
  split at h
  · cases h
    exact .halted hf
  · obtain ⟨u, hu, rfl⟩ := andThen_eq_next h
    exact .stepped u hf hu

theorem interruptCall_ends {s t : State} {data : Byte} {rest : List HostCall}
    (h : interruptCall data { s with calls := rest } = .next t) : CallEnds s (fresh s rest) t := by
  obtain ⟨hf, -, h⟩ := unlessMarked_eq_next h
  simp only at h
  split at h
  · cases h; exact .ignored
  split at h
  · cases h; exact .ignored
  split at h
  · split at h
    · obtain ⟨u, hu, rfl⟩ := andThen_eq_next h
      exact .mode0 data u hf ‹_› hu
    · cases h; exact .refused data
  · cases h; exact .mode1 hf
  · cases h; exact .mode2 data hf

/-- Every step that answers a next state is one of these calls. -/
theorem step_ends {s t : State} (h : step s = .next t) : CallEnds s (fresh s s.calls.tail) t := by
  unfold step serve at h
  cases hc : s.calls with
  | nil =>
    have hs : ({ s with calls := [] } : State) = s := by rw [← hc]
    rw [hc] at h
    exact stepCall_ends (hs.symm ▸ h)
  | cons call rest =>
    rw [hc] at h
    cases call with
    | step => exact stepCall_ends h
    | interrupt data => exact interruptCall_ends h
    | reset => cases h; exact .reset (by rw [hc]; rfl)
    | act action => cases h; exact .acted action (by rw [hc]; exact List.mem_cons_self)

/-- Taking an interrupt in mode 1 or 2 is a part and a charge. -/
theorem takeMode1_part (s : State) : ∃ t, Part s t ∧ s.takeMode1 = t.charge 13 := ⟨_, Part.call s 0x0038, rfl⟩

theorem takeMode2_part (s : State) (data : Byte) : ∃ t, Part s t ∧ s.takeMode2 data = t.charge 19 :=
  ⟨_, ((Part.push s _).trans (Part.memRead16 _ _)).trans (Part.jump _ _), rfl⟩

-- Memory stays canonical

theorem consulted_wf {b : State} (h : b.mem.wf = true) : (consulted b).2.mem.wf = true := by
  have hr := wf_memRead b.cpu.pc h
  match hk : b.hook with
  | none => rwa [consulted_of_none hk]
  | some [] => rwa [consulted_of_nil hk]
  | some (ans :: later) =>
    rw [consulted_of_cons hk]
    exact Memory.wf_storeAll _ hr

theorem exec_wf {i : Instr} {s t : State} (hs : s.mem.wf = true) (h : exec i s = .next t) : t.mem.wf = true := by
  obtain ⟨op, -, rfl⟩ | ⟨x, op, -, rfl⟩ | ⟨-, -, t', ht', -, hw, -⟩ := exec_next_cases h
  · exact hs
  · exact hs
  · cases h.symm.trans ht'
    exact hw hs

theorem execPrimary_wf {fuel : Nat} {op : Byte} {s t : State} (hs : s.mem.wf = true)
    (h : execPrimary fuel op s = .next t) : t.mem.wf = true :=
  execPrimary_induction (I := fun s => s.mem.wf = true) (Q := fun s => s.mem.wf = true)
    (fun s op hs => (State.fetchInstr_keeps s op).2.1 hs) (fun _ _ _ hs h _ => exec_wf hs h)
    (fun _ _ t _ hs h _ => exec_wf (t := t) hs h) hs h

theorem endStep_mem (s : State) : (endStep s).mem = s.mem := by
  unfold endStep
  split <;> rfl

theorem step_wf {s t : State} (hs : s.mem.wf = true) (h : step s = .next t) : t.mem.wf = true := by
  cases step_ends h with
  | reset _ | ignored | refused _ => exact hs
  | acted act _ => exact Memory.wf_storeAll _ hs
  | halted _ => rw [endStep_mem]; exact hs
  | stepped u _ hu =>
    rw [endStep_mem]
    rcases dispatchStep_next_cases hu with rfl | hx
    · exact consulted_wf hs
    · exact execPrimary_wf (s := State.pastOpcode _) (consulted_wf (b := fresh s s.calls.tail) hs) hx
  | mode0 data u _ _ hu =>
    exact execPrimary_wf (s := (State.acknowledge (fresh s _)).openMode0) (t := u) hs hu
  | mode1 _ =>
    obtain ⟨u, ⟨-, hw, -⟩, hu⟩ := takeMode1_part (fresh s s.calls.tail).acknowledge
    exact hu ▸ hw hs
  | mode2 data _ =>
    obtain ⟨u, ⟨-, hw, -⟩, hu⟩ := takeMode2_part (fresh s s.calls.tail).acknowledge data
    exact hu ▸ hw hs

-- The flip-flops stay ordered, and the cycles are accounted

theorem hostKeepsCpu_congr {s t : State} (hc : t.calls = s.calls) (hh : t.hook = s.hook) :
    t.hostKeepsCpu = s.hostKeepsCpu := by
  simp only [State.hostKeepsCpu, hc, hh]

/-- What holds while a step runs that began with the record `u`, to which an illegal opcode returns. -/
structure Running (u : Cpu) (s : State) : Prop where
  ordered : u.FlipFlopsOrdered → s.cpu.FlipFlopsOrdered
  cycles : s.cpu.cycles = u.cycles
  start : s.start = u
  host : s.hostKeepsCpu = true
  unmarked : s.faultMark = none
  settled : s.pending = none

/-- What holds when it has run, before its cycles are added: an illegal opcode has cost nothing. -/
structure HasRun (u : Cpu) (t : State) : Prop where
  ordered : u.FlipFlopsOrdered → t.cpu.FlipFlopsOrdered
  cycles : t.cpu.cycles = u.cycles
  host : t.hostKeepsCpu = true
  charged : t.faultMark = none ∨ t.delta = 0

namespace Running

variable {u : Cpu} {s t : State}

theorem hasRun (h : Running u s) : HasRun u s := ⟨h.ordered, h.cycles, h.host, .inl h.unmarked⟩

/-- A part that leaves the flip-flops ordered, the cycles and the host keeps `Running`. -/
theorem of_hostStays (h : Running u s) (hs : HostStays s t)
    (ho : s.cpu.FlipFlopsOrdered → t.cpu.FlipFlopsOrdered) (hc : t.cpu.cycles = s.cpu.cycles) : Running u t := by
  obtain ⟨hf, -, -, hca, hh, hst, -, hp⟩ := hs
  exact ⟨ho ∘ h.ordered, hc.trans h.cycles, hst.trans h.start, (hostKeepsCpu_congr hca hh).trans h.host,
    hf.trans h.unmarked, hp.trans h.settled⟩

theorem of_part (h : Running u s) (hp : Part s t) : Running u t := by
  obtain ⟨-, -, hh, -, -, -, -, -, h1, h2, -, -, -, -, hc⟩ := hp
  exact h.of_hostStays hh (fun ho => by rwa [Cpu.FlipFlopsOrdered, h1, h2]) hc

theorem charge (h : Running u s) (k : Nat) : Running u (s.charge k) := h.of_hostStays (HostStays.rfl' s) id rfl

end Running

/-- A fetch moves PC and R alone. -/
theorem fetchInstr_cpu (s : State) (op : Byte) :
    ∃ pc r, (s.fetchInstr op).2.cpu = { s.cpu with pc := pc, r := r } := by
  unfold State.fetchInstr
  split
  · exact ⟨_, _, State.fetchBytes_cpu s.fetchOp.2 _⟩
  · exact ⟨_, _, State.fetchBytes_cpu s _⟩

theorem Running.fetchInstr {u : Cpu} {s : State} (op : Byte) (h : Running u s) : Running u (s.fetchInstr op).2 := by
  obtain ⟨pc, r, hcpu⟩ := fetchInstr_cpu s op
  exact h.of_hostStays (State.fetchInstr_keeps s op).2.2.1 (fun ho => hcpu ▸ ho) (by rw [hcpu])

theorem Running.exec {u : Cpu} {i : Instr} {s t : State} (hs : Running u s) (h : exec i s = .next t) :
    (t.pending = none → HasRun u t) ∧ (t.pending ≠ none → Running u { t with pending := none }) := by
  obtain ⟨op, -, rfl⟩ | ⟨x, op, -, rfl⟩ | ⟨hi, -, t', ht', -, -, hh⟩ := exec_next_cases h
  · have hcpu : (s.raiseIllegal op).cpu = u := hs.start
    exact ⟨fun _ => ⟨fun ho => hcpu.symm ▸ ho, by rw [hcpu], hs.host, .inr rfl⟩, fun hp => absurd hs.settled hp⟩
  · exact ⟨fun hp => (nomatch hp), fun _ => ⟨hs.ordered, hs.cycles, hs.start, hs.host, hs.unmarked, rfl⟩⟩
  · cases h.symm.trans ht'
    obtain ⟨-, -, -, -, -, -, -, -, -, hc, -⟩ := exec_special_registers hi h
    have ht := hs.of_hostStays hh (exec_flipFlopsOrdered hi h) hc
    exact ⟨fun _ => ht.hasRun, fun hp => absurd ht.settled hp⟩

theorem Running.execPrimary {u : Cpu} {fuel : Nat} {op : Byte} {s t : State} (hs : Running u s)
    (h : execPrimary fuel op s = .next t) : HasRun u t :=
  execPrimary_induction (I := Running u) (Q := HasRun u) (fun _ op hs => hs.fetchInstr op)
    (fun _ _ _ hs h hp => (hs.exec h).1 hp) (fun _ _ _ _ hs h hp => (hs.exec h).2 (by simp [hp])) hs h

/-- The hook keeps `Running` when its answers write no processor record. -/
theorem Running.consulted {u : Cpu} {b : State} (h : Running u b) : Running u (consulted b).2 := by
  have hr : Running u (b.memRead b.cpu.pc).2 := h.of_part (Part.memRead b _)
  match hk : b.hook with
  | none => rwa [consulted_of_none hk]
  | some [] => rw [consulted_of_nil hk]; exact hr.of_hostStays (HostStays.rfl' _) id rfl
  | some (ans :: later) =>
    have hh := h.host
    simp only [State.hostKeepsCpu, hk, List.all_cons, Bool.and_eq_true] at hh
    obtain ⟨hcalls, hans, hlater⟩ := hh
    have hcpu : ans.act.cpu = none := by simpa [HostAction.keepsCpu] using hans
    rw [consulted_of_cons hk]
    refine ⟨?_, ?_, h.start, ?_, h.unmarked, h.settled⟩
    · simpa [applyAction, hcpu] using h.ordered
    · simpa [applyAction, hcpu] using h.cycles
    · simpa [State.hostKeepsCpu, applyAction, hlater] using hcalls

theorem countdown_cpu (s : State) : s.countdown.cpu = counted s.cpu := by
  rw [State.countdown, State.onCpu_cpu]
  unfold counted
  match h : s.cpu.eiDelay with
  | 0 | 1 | 2 => simp

theorem counted_cycles (u : Cpu) : (counted u).cycles = u.cycles := by
  unfold counted
  split <;> rfl

/-- The countdown sets both flip-flops or none. -/
theorem counted_flipFlopsOrdered {u : Cpu} (h : u.FlipFlopsOrdered) : (counted u).FlipFlopsOrdered := by
  unfold counted
  split
  · exact h
  · exact fun _ => rfl
  · exact h

theorem addCycles_countdown (s : State) :
    addCycles s.countdown = { s with cpu := { counted s.cpu with cycles := s.cpu.cycles + s.delta } } := by
  show ({ s with cpu := { s.countdown.cpu with cycles := s.countdown.cpu.cycles + s.delta } } : State) = _
  rw [countdown_cpu, counted_cycles]

theorem endStep_eq_ended (s : State) : endStep s = ended s := by
  cases hmark : s.faultMark with
  | some record => simp only [endStep, ended, hmark]
  | none => simp only [endStep, ended, hmark, addCycles_countdown]

/-- What a call leaves that began with the record `u`: the host as before, and the cycles of its delta added. -/
structure Accounted (u : Cpu) (t : State) : Prop where
  ordered : u.FlipFlopsOrdered → t.cpu.FlipFlopsOrdered
  host : t.hostKeepsCpu = true
  cycles : t.cpu.cycles = u.cycles + t.delta

theorem HasRun.addCycles {u : Cpu} {t : State} (h : HasRun u t) : Accounted u (addCycles t) :=
  ⟨h.ordered, h.host, congrArg (· + t.delta) h.cycles⟩

theorem HasRun.endStep {u : Cpu} {t : State} (h : HasRun u t) : Accounted u (endStep t) := by
  rw [endStep_eq_ended]
  unfold ended
  split
  next r hr =>
    obtain hn | hd := h.charged
    · exact nomatch hn.symm.trans hr
    · exact ⟨h.ordered, h.host, by rw [h.cycles, hd, Nat.add_zero]⟩
  next => exact ⟨fun ho => counted_flipFlopsOrdered (h.ordered ho), h.host, congrArg (· + t.delta) h.cycles⟩

theorem running_fresh {s : State} {rest : List HostCall} (hk : (fresh s rest).hostKeepsCpu = true)
    (hf : s.faultMark = none) : Running s.cpu (fresh s rest) :=
  ⟨id, rfl, rfl, hk, hf, rfl⟩

theorem hostKeepsCpu_fresh {s : State} (h : s.hostKeepsCpu = true) :
    (fresh s s.calls.tail).hostKeepsCpu = true := by
  simp only [State.hostKeepsCpu, Bool.and_eq_true, List.all_eq_true, fresh] at h ⊢
  exact ⟨fun c hc => h.1 c (List.mem_of_mem_tail hc), h.2⟩

/-- For a host that writes no record, every call but a reset accounts for its cycles. -/
theorem step_accounted {s t : State} (hk : s.hostKeepsCpu = true) (h : step s = .next t) :
    s.calls.head? = some .reset ∧ t = resetCall (fresh s s.calls.tail) ∨ Accounted s.cpu t := by
  have hb := hostKeepsCpu_fresh hk
  have hack (hf : s.faultMark = none) : Running s.cpu (fresh s s.calls.tail).acknowledge :=
    (running_fresh hb hf).of_hostStays (HostStays.rfl' _) (fun _ e => Bool.noConfusion e) rfl
  cases step_ends h with
  | reset hr => exact .inl ⟨hr, rfl⟩
  | acted act hact =>
    simp only [State.hostKeepsCpu, Bool.and_eq_true, List.all_eq_true] at hk
    have hcpu : act.cpu = none := by simpa [HostAction.keepsCpu] using hk.1 _ hact
    have hsame : (applyAction act (fresh s s.calls.tail)).cpu = s.cpu := by simp only [applyAction, hcpu]; rfl
    exact .inr ⟨fun ho => hsame ▸ ho, hb, by rw [hsame]; rfl⟩
  | halted hf => exact .inr (HasRun.endStep ⟨id, rfl, hb, .inl hf⟩)
  | stepped u hf hu =>
    have hr := (running_fresh hb hf).consulted
    obtain rfl | hx := dispatchStep_next_cases hu
    · exact .inr hr.hasRun.endStep
    · have hp : Running s.cpu (State.pastOpcode (consulted (fresh s s.calls.tail)).2) :=
        hr.of_hostStays (HostStays.rfl' _) id rfl
      exact .inr (hp.execPrimary hx).endStep
  | ignored => exact .inr ⟨id, hb, rfl⟩
  | refused data => exact .inr ⟨id, hb, rfl⟩
  | mode0 data u hf _ hu =>
    have hr : Running s.cpu (fresh s s.calls.tail).acknowledge.openMode0 :=
      (hack hf).of_hostStays (HostStays.rfl' _) id rfl
    exact .inr (hr.execPrimary hu).addCycles
  | mode1 hf =>
    obtain ⟨u, hp, hu⟩ := takeMode1_part (fresh s s.calls.tail).acknowledge
    exact .inr (hu ▸ (((hack hf).of_part hp).charge _).hasRun.addCycles)
  | mode2 data hf =>
    obtain ⟨u, hp, hu⟩ := takeMode2_part (fresh s s.calls.tail).acknowledge data
    exact .inr (hu ▸ (((hack hf).of_part hp).charge _).hasRun.addCycles)

end Sys2Proof.Machine

namespace Sys2Proof.Claims
open Sys2Proof.Machine

/-- Settles O56: memory changes only by stores to words, each of which keeps the canonical form. -/
theorem memoryStaysCanonical : Obligations.MemoryStaysCanonical := by
  unfold Obligations.MemoryStaysCanonical
  exact fun s t => step_wf

/-- Settles O57: a reset clears both flip-flops, and every other call keeps their order. -/
theorem flipFlopsStayOrdered : Obligations.FlipFlopsStayOrdered := by
  unfold Obligations.FlipFlopsStayOrdered
  intro s t ho hk h
  obtain ⟨-, rfl⟩ | hacc := step_accounted hk h
  · exact ⟨fun e => Bool.noConfusion e, hostKeepsCpu_fresh hk⟩
  · exact ⟨hacc.ordered ho, hacc.host⟩

/-- Settles O59: every call but a reset ends by adding its delta, or has the delta 0. -/
theorem cyclesAreAccounted : Obligations.CyclesAreAccounted := by
  unfold Obligations.CyclesAreAccounted
  intro s t hk hn h
  obtain ⟨hr, -⟩ | hacc := step_accounted hk h
  · exact absurd hr hn
  · exact hacc.cycles

/-- Settles O60: each special instruction writes its own registers, and the others write none. -/
theorem specialRegistersChangeOnlyByTheirWriters : Obligations.SpecialRegistersChangeOnlyByTheirWriters := by
  unfold Obligations.SpecialRegistersChangeOnlyByTheirWriters
  exact fun i s t => exec_special_registers

/-- Settles O58. -/
theorem resetMeetsInvariants : Obligations.ResetMeetsInvariants := by
  unfold Obligations.ResetMeetsInvariants
  exact ⟨Memory.wf_nil, fun e => Bool.noConfusion e, rfl⟩

end Sys2Proof.Claims
end

section
/-! Decoding, then encoding (spec/30_encoding.md R116, R118). An instruction is spelt by its opcode bytes alone, or by
them and an operand of one or two bytes: the first are checked byte by byte, the others stand in tables of forms, an
opcode with the instruction of an arbitrary operand. -/

namespace Sys2Proof

/-- The decoded `d` is a well-formed instruction of one to four bytes, and they are those `bs` begins with. -/
def Spells (d : Instr × Nat) (bs : List Byte) : Prop :=
  d.1.wellFormed = true ∧ encode d.1 = bs.take d.2 ∧ 1 ≤ d.2 ∧ d.2 ≤ 4

theorem Spells.of_eq {d : Instr × Nat} {i : Instr} {n : Nat} {bs : List Byte} (hd : d = (i, n + 1))
    (hw : i.wellFormed = true) (he : encode i = bs.take (n + 1)) (hn : n ≤ 3) : Spells d bs := by
  subst hd
  exact ⟨hw, he, Nat.succ_pos n, Nat.succ_le_succ hn⟩

/-- A word operand is spelt by its bytes, low byte first. -/
theorem word_bytes {f : Word → Instr} {pre : List Byte} (lo hi : Byte)
    (he : ∀ w, encode (f w) = pre ++ [loByte w, hiByte w]) : encode (f (wordOf hi lo)) = pre ++ [lo, hi] := by
  rw [he, Machine.loByte_wordOf, Machine.hiByte_wordOf]

/-- The unprefixed opcodes with a byte operand, and the instruction of each. -/
def byteForms : List (Byte × (Byte → Instr)) :=
  [(0x10, .djnz), (0x18, .jr), (0x20, .jrCc .nz), (0x28, .jrCc .z), (0x30, .jrCc .nc), (0x38, .jrCc .c),
   (0x06, .ldRN .b), (0x0E, .ldRN .c), (0x16, .ldRN .d), (0x1E, .ldRN .e), (0x26, .ldRN .h), (0x2E, .ldRN .l),
   (0x36, .ldMhlN), (0x3E, .ldRN .a), (0xC6, .addAN), (0xCE, .adcAN), (0xD6, .subN), (0xDE, .sbcAN), (0xE6, .andN),
   (0xEE, .xorN), (0xF6, .orN), (0xFE, .cpN), (0xD3, .outMnA), (0xDB, .inAMn)]

/-- The unprefixed opcodes with a word operand. -/
def wordForms : List (Byte × (Word → Instr)) :=
  [(0x01, .ldRpNn .bc), (0x11, .ldRpNn .de), (0x21, .ldRpNn .hl), (0x31, .ldRpNn .sp), (0x22, .ldMnnHl),
   (0x2A, .ldHlMnn), (0x32, .ldMnnA), (0x3A, .ldAMnn), (0xC3, .jpNn), (0xCD, .callNn), (0xC2, .jpCcNn .nz),
   (0xCA, .jpCcNn .z), (0xD2, .jpCcNn .nc), (0xDA, .jpCcNn .c), (0xE2, .jpCcNn .po), (0xEA, .jpCcNn .pe),
   (0xF2, .jpCcNn .p), (0xFA, .jpCcNn .m), (0xC4, .callCcNn .nz), (0xCC, .callCcNn .z), (0xD4, .callCcNn .nc),
   (0xDC, .callCcNn .c), (0xE4, .callCcNn .po), (0xEC, .callCcNn .pe), (0xF4, .callCcNn .p), (0xFC, .callCcNn .m)]

/-- The ED sub-opcodes with a word operand (R109). -/
def edWordForms : List (Byte × (Word → Instr)) :=
  [(0x43, .ldMnnRp .bc), (0x53, .ldMnnRp .de), (0x63, .ldMnnRp .hl), (0x73, .ldMnnRp .sp), (0x4B, .ldRpMnn .bc),
   (0x5B, .ldRpMnn .de), (0x6B, .ldRpMnn .hl), (0x7B, .ldRpMnn .sp)]

/-- The DD and FD opcodes with a byte operand (R110). -/
def xyByteForms (x : Xy) : List (Byte × (Byte → Instr)) :=
  [(0x34, .incMxyd x), (0x35, .decMxyd x), (0x26, .ldXyhN x), (0x2E, .ldXylN x), (0x46, .ldBMxyd x),
   (0x4E, .ldCMxyd x), (0x56, .ldDMxyd x), (0x5E, .ldEMxyd x), (0x66, .ldHMxyd x), (0x6E, .ldLMxyd x),
   (0x7E, .ldAMxyd x), (0x70, .ldMxydB x), (0x71, .ldMxydC x), (0x72, .ldMxydD x), (0x73, .ldMxydE x),
   (0x74, .ldMxydH x), (0x75, .ldMxydL x), (0x77, .ldMxydA x), (0x86, .addAMxyd x), (0x8E, .adcAMxyd x),
   (0x96, .subMxyd x), (0x9E, .sbcAMxyd x), (0xA6, .andMxyd x), (0xAE, .xorMxyd x), (0xB6, .orMxyd x),
   (0xBE, .cpMxyd x)]

/-- The DD and FD opcodes with a word operand. -/
def xyWordForms (x : Xy) : List (Byte × (Word → Instr)) :=
  [(0x21, .ldXyNn x), (0x22, .ldMnnXy x), (0x2A, .ldXyMnn x)]

/-- A form: the opcode and its operand decode to the instruction, whose encoding is the opcode and the operand. -/
theorem decode_byteForms : ∀ e ∈ byteForms, ∀ n c d,
    decodeBytes e.1 n c d = (e.2 n, 2) ∧ (e.2 n).wellFormed = true ∧ encode (e.2 n) = [e.1, n] := by
  intro e he
  fin_cases he <;> exact fun _ _ _ => ⟨rfl, rfl, rfl⟩

theorem decode_wordForms : ∀ e ∈ wordForms, ∀ lo hi d w,
    decodeBytes e.1 lo hi d = (e.2 (wordOf hi lo), 3) ∧ (e.2 w).wellFormed = true ∧
      encode (e.2 w) = [e.1, loByte w, hiByte w] := by
  intro e he
  fin_cases he <;> exact fun _ _ _ _ => ⟨rfl, rfl, rfl⟩

theorem decode_edWordForms : ∀ e ∈ edWordForms, ∀ lo hi w,
    decodeBytes 0xED e.1 lo hi = (e.2 (wordOf hi lo), 4) ∧ (e.2 w).wellFormed = true ∧
      encode (e.2 w) = [0xED, e.1, loByte w, hiByte w] := by
  intro e he
  fin_cases he <;> exact fun _ _ _ => ⟨rfl, rfl, rfl⟩

theorem decode_xyByteForms (x : Xy) : ∀ e ∈ xyByteForms x, ∀ n d,
    decodeBytes x.prefixByte e.1 n d = (e.2 n, 3) ∧ (e.2 n).wellFormed = true ∧
      encode (e.2 n) = [x.prefixByte, e.1, n] := by
  intro e he
  cases x <;> fin_cases he <;> exact fun _ _ => ⟨rfl, rfl, rfl⟩

theorem decode_xyWordForms (x : Xy) : ∀ e ∈ xyWordForms x, ∀ lo hi w,
    decodeBytes x.prefixByte e.1 lo hi = (e.2 (wordOf hi lo), 4) ∧ (e.2 w).wellFormed = true ∧
      encode (e.2 w) = [x.prefixByte, e.1, loByte w, hiByte w] := by
  intro e he
  cases x <;> fin_cases he <;> exact fun _ _ _ => ⟨rfl, rfl, rfl⟩

/-- The unprefixed opcodes without an operand. -/
theorem decode_bare : ∀ op, Machine.isPrefix op = false →
    op ∈ byteForms.map (·.1) ∨ op ∈ wordForms.map (·.1) ∨
      (decodeBytes op 0 0 0).2 = 1 ∧ (decodeBytes op 0 0 0).1.wellFormed = true ∧
        encode (decodeBytes op 0 0 0).1 = [op] := by
  decide

theorem decode_edBare : ∀ op,
    op ∈ edWordForms.map (·.1) ∨
      (decodeEd op 0 0).2 = 2 ∧ (decodeEd op 0 0).1.wellFormed = true ∧ encode (decodeEd op 0 0).1 = [0xED, op] := by
  decide

theorem decode_xyBare (x : Xy) : ∀ op,
    op = 0xCB ∨ op = 0x36 ∨ op ∈ (xyByteForms x).map (·.1) ∨ op ∈ (xyWordForms x).map (·.1) ∨
      (decodeXy x op 0 0).2 = 2 ∧ (decodeXy x op 0 0).1.wellFormed = true ∧
        encode (decodeXy x op 0 0).1 = [x.prefixByte, op] := by
  cases x <;> decide

theorem decode_cb : ∀ op,
    (decodeCb op).2 = 2 ∧ (decodeCb op).1.wellFormed = true ∧ encode (decodeCb op).1 = [0xCB, op] := by
  decide

theorem unprefixed_spells {op : Byte} (h : Machine.isPrefix op = false) (b1 b2 b3 : Byte) :
    Spells (decodeBytes op b1 b2 b3) [op, b1, b2, b3] := by
  obtain hb | hw | ⟨hl, hw, he⟩ := decode_bare op h
  · obtain ⟨e, hm, rfl⟩ := List.mem_map.mp hb
    obtain ⟨hd, hw, he⟩ := decode_byteForms e hm b1 b2 b3
    exact .of_eq hd hw he (by decide)
  · obtain ⟨e, hm, rfl⟩ := List.mem_map.mp hw
    have hf := decode_wordForms e hm b1 b2 b3
    obtain ⟨hd, hw, -⟩ := hf (wordOf b2 b1)
    exact .of_eq hd hw (word_bytes (pre := [e.1]) b1 b2 fun w => (hf w).2.2) (by decide)
  · obtain ⟨-, hshort, -⟩ := decodeBytes_unprefixed h 0 0 0 b1 b2 b3
    exact .of_eq ((hshort hl.le).symm.trans (Prod.ext rfl hl)) hw he (by decide)

theorem ed_spells (op lo hi : Byte) : Spells (decodeBytes 0xED op lo hi) [0xED, op, lo, hi] := by
  obtain hw | ⟨hl, hw, he⟩ := decode_edBare op
  · obtain ⟨e, hm, rfl⟩ := List.mem_map.mp hw
    have hf := decode_edWordForms e hm lo hi
    obtain ⟨hd, hw, -⟩ := hf (wordOf hi lo)
    exact .of_eq hd hw (word_bytes (pre := [0xED, e.1]) lo hi fun w => (hf w).2.2) (by decide)
  · have hshort : decodeEd op 0 0 = decodeEd op lo hi := decodeEd_short (hl.le.trans (by decide)) lo hi
    exact .of_eq (hshort.symm.trans (Prod.ext rfl hl)) hw he (by decide)

theorem cb_spells (op b2 b3 : Byte) : Spells (decodeBytes 0xCB op b2 b3) [0xCB, op, b2, b3] := by
  obtain ⟨hl, hw, he⟩ := decode_cb op
  exact .of_eq (Prod.ext rfl hl) hw he (by decide)

theorem encode_rotMxydR (x : Xy) (d : Byte) (y : BitVec 3) (r : R8) :
    (rotMxydR (RotOp.ofCode y) x d r).wellFormed = true ∧
      encode (rotMxydR (RotOp.ofCode y) x d r) = [x.prefixByte, 0xCB, d, xyz 0 y r.code] := by
  fin_cases y <;> exact ⟨rfl, rfl⟩

theorem encode_rotMxyd (x : Xy) (d : Byte) (y : BitVec 3) :
    (rotMxyd (RotOp.ofCode y) x d).wellFormed = true ∧
      encode (rotMxyd (RotOp.ofCode y) x d) = [x.prefixByte, 0xCB, d, xyz 0 y 6] := by
  fin_cases y <;> exact ⟨rfl, rfl⟩

theorem R8.code_of_ofCode {k : BitVec 3} {r : R8} (h : R8.ofCode k = some r) : r.code = k := by
  revert r k
  decide

theorem R8.eq_six_of_ofCode {k : BitVec 3} (h : R8.ofCode k = none) : k = 6 := by
  revert k
  decide

/-- An opcode byte is spelt by its fields. -/
theorem eq_xyz (op : Byte) : ∃ (x : BitVec 2) (y z : BitVec 3), op = xyz x y z :=
  ⟨op.extractLsb' 6 2, fieldY op, fieldZ op, by revert op; decide⟩

theorem decodeBytes_xyCb_rot (x : Xy) (d : Byte) (y : BitVec 3) (r : R8) :
    decodeBytes x.prefixByte 0xCB d (xyz 0 y r.code) = (rotMxydR (RotOp.ofCode y) x d r, 4) ∧
      decodeBytes x.prefixByte 0xCB d (xyz 0 y 6) = (rotMxyd (RotOp.ofCode y) x d, 4) := by
  simp [decodeBytes_xy, decodeXy, decodeXyCb]

theorem xyCb_spells (x : Xy) (d op : Byte) :
    Spells (decodeBytes x.prefixByte 0xCB d op) [x.prefixByte, 0xCB, d, op] := by
  obtain ⟨f, y, z, rfl⟩ := eq_xyz op
  have hz : (∃ r, z = R8.code r) ∨ z = 6 := by
    cases h : R8.ofCode z with
    | some r => exact .inl ⟨r, (R8.code_of_ofCode h).symm⟩
    | none => exact .inr (R8.eq_six_of_ofCode h)
  fin_cases f
  · obtain ⟨r, rfl⟩ | rfl := hz
    · obtain ⟨hw, he⟩ := encode_rotMxydR x d y r
      exact .of_eq (decodeBytes_xyCb_rot x d y r).1 hw he (by decide)
    · obtain ⟨hw, he⟩ := encode_rotMxyd x d y
      exact .of_eq (decodeBytes_xyCb_rot x d y .a).2 hw he (by decide)
  · exact .of_eq (decodeBytes_xyCb_bit x d y z) rfl rfl (by decide)
  · obtain ⟨r, rfl⟩ | rfl := hz
    · exact .of_eq (decodeBytes_xyCb_res x d y r).1 rfl rfl (by decide)
    · exact .of_eq (decodeBytes_xyCb_res x d y .a).2 rfl rfl (by decide)
  · obtain ⟨r, rfl⟩ | rfl := hz
    · exact .of_eq (decodeBytes_xyCb_set x d y r).1 rfl rfl (by decide)
    · exact .of_eq (decodeBytes_xyCb_set x d y .a).2 rfl rfl (by decide)

theorem xy_spells (x : Xy) (op b2 b3 : Byte) :
    Spells (decodeBytes x.prefixByte op b2 b3) [x.prefixByte, op, b2, b3] := by
  obtain rfl | rfl | hb | hw | ⟨hl, hw, he⟩ := decode_xyBare x op
  · exact xyCb_spells x b2 b3
  · cases x <;> exact .of_eq (i := .ldMxydN _ b2 b3) rfl rfl rfl (by decide)
  · obtain ⟨e, hm, rfl⟩ := List.mem_map.mp hb
    obtain ⟨hd, hw, he⟩ := decode_xyByteForms x e hm b2 b3
    exact .of_eq hd hw he (by decide)
  · obtain ⟨e, hm, rfl⟩ := List.mem_map.mp hw
    have hf := decode_xyWordForms x e hm b2 b3
    obtain ⟨hd, hw, -⟩ := hf (wordOf b3 b2)
    exact .of_eq hd hw (word_bytes (pre := [x.prefixByte, e.1]) b2 b3 fun w => (hf w).2.2) (by decide)
  · rw [decodeBytes_xy]
    exact .of_eq ((decodeXy_two hl.le b2 b3).symm.trans (Prod.ext rfl hl)) hw he (by decide)

/-- What is decoded is well formed and spells the bytes it was decoded from. -/
theorem decodeBytes_spells (b0 b1 b2 b3 : Byte) : Spells (decodeBytes b0 b1 b2 b3) [b0, b1, b2, b3] := by
  cases h : Machine.isPrefix b0
  · exact unprefixed_spells h b1 b2 b3
  · have hb : b0 = 0xCB ∨ b0 = 0xDD ∨ b0 = 0xED ∨ b0 = 0xFD := by simpa [Machine.isPrefix, or_assoc] using h
    rcases hb with rfl | rfl | rfl | rfl
    · exact cb_spells b1 b2 b3
    · exact xy_spells .ix b1 b2 b3
    · exact ed_spells b1 b2 b3
    · exact xy_spells .iy b1 b2 b3

-- The illegal and the fallback rows (R109, R110)

theorem two_bytes {a b b0 b1 : Byte} {bs : List Byte} {n : Nat} (h : [a, b] = (b0 :: b1 :: bs).take n) :
    b0 = a ∧ b1 = b := by
  match n with
  | 0 | 1 => exact nomatch h
  | n + 2 =>
    rw [List.take_succ_cons, List.take_succ_cons] at h
    injection h with h0 h
    injection h with h1 _
    exact ⟨h0.symm, h1.symm⟩

theorem encode_of_isIllegal {i : Instr} (h : Claims.isIllegal i = true) (hw : i.wellFormed = true) :
    ∃ op, encode i = [0xED, op] ∧ op ∉ edOpcodes := by
  unfold Claims.isIllegal at h
  split at h
  · next op =>
    refine ⟨op, rfl, fun hm => ?_⟩
    have hc : isIllegalEd op = true := hw
    simp [isIllegalEd, hm] at hc
  · exact ⟨0x70, rfl, by decide⟩
  · exact ⟨0x71, rfl, by decide⟩
  · exact absurd h Bool.false_ne_true

theorem isIllegal_decodeEd {op : Byte} (h : op ∉ edOpcodes) (lo hi : Byte) :
    Claims.isIllegal (decodeEd op lo hi).1 = true := by
  have key : ∀ op, op ∉ edOpcodes → (decodeEd op 0 0).2 ≤ 3 ∧ Claims.isIllegal (decodeEd op 0 0).1 = true := by
    decide
  rw [← decodeEd_short (key op h).1 lo hi]
  exact (key op h).2

theorem exists_of_isFallback {i : Instr} (h : Claims.isFallback i = true) : ∃ x op, i = .xyFallback x op := by
  unfold Claims.isFallback at h
  split at h
  · exact ⟨_, _, rfl⟩
  · exact absurd h Bool.false_ne_true

theorem isIllegal_decodeBytes_iff (b0 b1 b2 b3 : Byte) :
    Claims.isIllegal (decodeBytes b0 b1 b2 b3).1 = true ↔ b0 = 0xED ∧ b1 ∉ edOpcodes := by
  obtain ⟨hw, he, -⟩ := decodeBytes_spells b0 b1 b2 b3
  constructor
  · intro h
    obtain ⟨op, hop, hn⟩ := encode_of_isIllegal h hw
    obtain ⟨rfl, rfl⟩ := two_bytes (hop.symm.trans he)
    exact ⟨rfl, hn⟩
  · rintro ⟨rfl, hn⟩
    exact isIllegal_decodeEd hn b2 b3

theorem isFallback_decodeBytes_iff (b0 b1 b2 b3 : Byte) :
    Claims.isFallback (decodeBytes b0 b1 b2 b3).1 = true ↔ (b0 = 0xDD ∨ b0 = 0xFD) ∧ b1 ∈ fallbackOpcodes := by
  obtain ⟨hw, he, -⟩ := decodeBytes_spells b0 b1 b2 b3
  constructor
  · intro h
    obtain ⟨x, op, hi⟩ := exists_of_isFallback h
    rw [hi] at hw he
    obtain ⟨rfl, rfl⟩ := two_bytes he
    exact ⟨by cases x <;> simp [Xy.prefixByte], List.contains_iff_mem.mp hw⟩
  · rintro ⟨rfl | rfl, hm⟩
    · exact congrArg (Claims.isFallback ·.1) (decodeBytes_of_fallback hm .ix b2 b3)
    · exact congrArg (Claims.isFallback ·.1) (decodeBytes_of_fallback hm .iy b2 b3)

end Sys2Proof

namespace Sys2Proof.Claims
open Sys2Proof.Machine

/-- Settles O3: the decoded bytes spell the instruction, opcode by opcode. -/
theorem encodeOfDecode : Obligations.EncodeOfDecode := by
  unfold Obligations.EncodeOfDecode
  exact decodeBytes_spells

/-- Settles O4: an illegal or fallback row spells its two bytes, and the listed bytes decode to these rows. -/
theorem prefixedBytesClassified : Obligations.PrefixedBytesClassified := by
  unfold Obligations.PrefixedBytesClassified
  exact fun b0 b1 b2 b3 => ⟨isIllegal_decodeBytes_iff b0 b1 b2 b3, isFallback_decodeBytes_iff b0 b1 b2 b3⟩

/-- Settles O1: each word is decoded by computation. -/
theorem decodesSpecWords : Obligations.DecodesSpecWords := by
  unfold Obligations.DecodesSpecWords
  decide

end Sys2Proof.Claims
end

section
/-! Accesses, and the rules by which an instruction runs. A part of an instruction leaves a trace: the accesses it makes,
in order, with memory as the host's service of them leaves it. Traces compose, so a shape of instruction
(spec/30_encoding.md R122, spec/20_memory.md R78) has its rule once, and every instruction of that shape runs by it. -/

namespace Sys2Proof.Claims
open Sys2Proof.Machine

-- Memory and the host's reactions after accesses

theorem hostAfter_append (host : List MemReaction) (xs ys : List BusAccess) :
    hostAfter host (xs ++ ys) = hostAfter (hostAfter host xs) ys := by
  induction xs generalizing host with
  | nil => rfl
  | cons x xs ih => cases x <;> exact ih _

theorem cellAfter_append (host : List MemReaction) (xs ys : List BusAccess) (a : Word) (old : Byte) :
    cellAfter host (xs ++ ys) a old = cellAfter (hostAfter host xs) ys a (cellAfter host xs a old) := by
  induction xs generalizing host old with
  | nil => rfl
  | cons x xs ih => cases x <;> exact ih _ _

/-- With no reaction prepared, memory is plain. -/
theorem cellAfter_nil (xs : List BusAccess) (a : Word) (old : Byte) : cellAfter [] xs a old = plainAfter xs a old := by
  induction xs generalizing old with
  | nil => rfl
  | cons x xs ih => cases x <;> exact ih _

-- Traces

theorem Keeps.trans {s t u : State} (h : Keeps s t) (k : Keeps t u) : Keeps s u := HostStays.trans h k

/-- Between `s` and `t` exactly these accesses were made, in this order, and nothing charged; memory is as they left
it. -/
structure Trace (s t : State) (accesses : List BusAccess) : Prop where
  bus : t.bus = accesses.reverse ++ s.bus
  delta : t.delta = s.delta
  holds : ∀ a, t.byteAt a = holdsAfter s accesses a
  host : t.memHost = hostAfter s.memHost accesses
  keeps : Keeps s t

namespace Trace

variable {s t u : State} {xs ys : List BusAccess}

theorem refl (s : State) : Trace s s [] := ⟨rfl, rfl, fun _ => rfl, rfl, HostStays.rfl' s⟩

theorem trans (h : Trace s t xs) (k : Trace t u ys) : Trace s u (xs ++ ys) where
  bus := by rw [k.bus, h.bus, List.reverse_append, List.append_assoc]
  delta := k.delta.trans h.delta
  holds a := by rw [k.holds, holdsAfter, holdsAfter, h.host, h.holds, holdsAfter, cellAfter_append]
  host := by rw [k.host, h.host, hostAfter_append]
  keeps := h.keeps.trans k.keeps

/-- A change of the processor record is no access. -/
theorem onCpu (h : Trace s t xs) (g : Cpu → Cpu) : Trace s (t.onCpu g) xs := ⟨h.bus, h.delta, h.holds, h.host, h.keeps⟩

theorem memRead (s : State) (a : Word) : Trace s (s.memRead a).2 [rd s a] :=
  ⟨rfl, rfl, byteAt_memRead s a, rfl, HostStays.rfl' s⟩

theorem memWrite (s : State) (a : Word) (v : Byte) : Trace s (s.memWrite a v) [.memWrite a v] :=
  ⟨rfl, rfl, fun b => byteAt_memWrite s a b v, rfl, HostStays.rfl' s⟩

theorem draw (h : Trace s t xs) : Trace s t.draw.2 xs := ⟨h.bus, h.delta, h.holds, h.host, h.keeps⟩

theorem portWrite (s : State) (p : Word) (v : Byte) : Trace s (s.portWrite p v) [.portWrite p v] :=
  ⟨rfl, rfl, fun _ => rfl, rfl, HostStays.rfl' s⟩

theorem portRead (s : State) (p : Word) : Trace s (s.portRead p).2 [.portRead p (s.portRead p).1] :=
  ⟨by simp, by simp, fun a => by simp [holdsAfter, cellAfter], by simp [hostAfter], by simp [Keeps]⟩

/-- What a read after the trace is answered. -/
theorem answerAt (h : Trace s t xs) (a : Word) : t.answerAt a = answerAfter s xs a := by
  rw [State.answerAt, State.nextReaction, h.host, h.holds]
  rfl

/-- A read after the trace. -/
theorem read (h : Trace s t xs) (a : Word) : Trace s (t.memRead a).2 (xs ++ [rdAfter s xs a]) := by
  have hr := h.trans (memRead t a)
  rwa [show rd t a = rdAfter s xs a from congrArg _ (h.answerAt a)] at hr

/-- A store after the trace. -/
theorem write (h : Trace s t xs) (a : Word) (v : Byte) : Trace s (t.memWrite a v) (xs ++ [.memWrite a v]) :=
  h.trans (memWrite t a v)

theorem memRead16 (s : State) (a : Word) : Trace s (s.memRead16 a).2 (rd16 s a) := (memRead s a).read (a + 1)

theorem memWrite16 (s : State) (a v : Word) : Trace s (s.memWrite16 a v) (wr16 a v) := (memWrite s a _).write (a + 1) _

theorem push (s : State) (v : Word) : Trace s (s.push v) (pushes s.cpu.sp v) := by
  rw [push_eq]
  exact ((memWrite s _ _).write _ _).onCpu _

end Trace

theorem memRead16_eq_wordAt (s : State) (a : Word) : (s.memRead16 a).1 = wordAt s a :=
  congrArg (wordOf · _) ((Trace.memRead s a).answerAt (a + 1))

theorem push_cpu (s : State) (v : Word) : (s.push v).cpu = { s.cpu with sp := s.cpu.sp - 2 } := by
  rw [push_eq]
  rfl

theorem push_portIn (s : State) (v : Word) : (s.push v).portIn = s.portIn := by
  rw [push_eq]
  rfl

theorem push_draws (s : State) (v : Word) : (s.push v).draws = s.draws := by
  rw [push_eq]
  rfl

-- Operands as places (R122)

/-- The reads of an operand. -/
def reads (s : State) : Place → List BusAccess
  | .atHl => [rd s s.cpu.hl]
  | .indexed x d => [rd s (eaOf s x d)]
  | .reg _ | .xyHigh _ | .xyLow _ => []

/-- The writes of a value to an operand. -/
def writes (s : State) (p : Place) (v : Byte) : List BusAccess :=
  match p with
  | .atHl => [.memWrite s.cpu.hl v]
  | .indexed x d => [.memWrite (eaOf s x d) v]
  | .reg _ | .xyHigh _ | .xyLow _ => []

theorem setR8_eq_withR8 (u : Cpu) (r : R8) (v : Byte) : u.setR8 r v = withR8 u r v := by cases r <;> rfl

theorem setXy_eq_withXy (u : Cpu) (x : Xy) (v : Word) : u.setXy x v = withXy u x v := by cases x <;> rfl

theorem setRp_eq_withRp (u : Cpu) (p : Rp) (v : Word) : u.setRp p v = withRp u p v := by cases p <;> rfl

theorem setRp2_eq_withRp2 (u : Cpu) (p : Rp2) (v : Word) : u.setRp2 p v = withRp2 u p v := by cases p <;> rfl

theorem place_read_fst (p : Place) (s : State) : (p.read s).1 = held s p := by cases p <;> rfl

theorem place_write_cpu (p : Place) (v : Byte) (s : State) : (p.write v s).cpu = withPlace s.cpu p v := by
  cases p with
  | reg r => exact setR8_eq_withR8 s.cpu r v
  | xyHigh x | xyLow x => cases x <;> rfl
  | atHl | indexed _ _ => rfl

theorem Trace.place_read (p : Place) (s : State) : Trace s (p.read s).2 (reads s p) := by
  cases p with
  | atHl => exact memRead s _
  | indexed x d => exact memRead s _
  | reg _ | xyHigh _ | xyLow _ => exact refl s

/-- A write to an operand, from a trace that leaves the registers its address is taken from. -/
theorem Trace.place_write {s t : State} {xs : List BusAccess} (h : Trace s t xs) (p : Place) (v : Byte)
    (hhl : t.cpu.hl = s.cpu.hl) (hxy : ∀ x, t.cpu.xy x = s.cpu.xy x) : Trace s (p.write v t) (xs ++ writes s p v) := by
  cases p with
  | atHl => simpa only [Place.write, writes, hhl] using h.write t.cpu.hl v
  | indexed x d =>
    have ha : t.cpu.ea x d = eaOf s x d := congrArg (· + d.signExtend 16) (hxy x)
    simpa only [Place.write, writes, ha] using h.write (t.cpu.ea x d) v
  | reg _ | xyHigh _ | xyLow _ => simpa only [Place.write, writes, List.append_nil] using h.onCpu _

@[simp] theorem place_read_draws (p : Place) (s : State) : (p.read s).2.draws = s.draws := by cases p <;> rfl
@[simp] theorem place_read_portIn (p : Place) (s : State) : (p.read s).2.portIn = s.portIn := by cases p <;> rfl
@[simp] theorem place_write_draws (p : Place) (v : Byte) (s : State) : (p.write v s).draws = s.draws := by
  cases p <;> rfl
@[simp] theorem place_write_portIn (p : Place) (v : Byte) (s : State) : (p.write v s).portIn = s.portIn := by
  cases p <;> rfl

-- The shapes of instruction, one rule each

/-- An instruction that ends with `done` runs as the trace up to there. -/
theorem RunsTo.of_done {i : Instr} {s t : State} {xs : List BusAccess} {k draws : Nat} {portIn : List Byte} {u : Cpu}
    (he : exec i s = t.done k) (h : Trace s t xs) (hu : t.cpu = u) (hd : t.draws = draws) (hp : t.portIn = portIn) :
    RunsTo i s u xs k draws portIn :=
  ⟨t.charge k, he, hu, h.bus, congrArg (· + k) h.delta, h.holds,
    fun hm a => (h.holds a).trans (by rw [holdsAfter, hm, cellAfter_nil]), h.host, hd, hp, h.keeps⟩

section Shapes

variable {i : Instr} {s : State} {k : Nat}

theorem runs_done (he : exec i s = s.done k) : Runs i s s.cpu [] k := .of_done he (Trace.refl s) rfl rfl rfl

theorem runs_cpuOnly {g : Cpu → Cpu} (he : exec i s = cpuOnly g k s) : Runs i s (g s.cpu) [] k :=
  .of_done he ((Trace.refl s).onCpu g) rfl rfl rfl

theorem runs_jump {a : Word} (he : exec i s = (s.jump a).done k) : Runs i s { s.cpu with pc := a } [] k :=
  .of_done he ((Trace.refl s).onCpu _) rfl rfl rfl

theorem runs_moveByte {dst src : Place} (he : exec i s = moveByte dst src k s) :
    Runs i s (withPlace s.cpu dst (held s src)) (reads s src ++ writes s dst (held s src)) k := by
  rw [← place_read_fst src s]
  refine .of_done (t := dst.write (src.read s).1 (src.read s).2) he
    ((Trace.place_read src s).place_write dst _ (by simp) (by simp)) ?_ (by simp) (by simp)
  rw [place_write_cpu, Place.read_cpu]

theorem runs_setByte {dst : Place} {n : Byte} (he : exec i s = setByte dst n k s) :
    Runs i s (withPlace s.cpu dst n) (writes s dst n) k :=
  .of_done (t := dst.write n s) he ((Trace.refl s).place_write dst n rfl fun _ => rfl) (place_write_cpu dst n s)
    (by simp) (by simp)

theorem runs_loadA {a : Word} (he : exec i s = loadA a k s) : Runs i s { s.cpu with a := answer s a } [rd s a] k :=
  .of_done he ((Trace.memRead s a).onCpu _) rfl rfl rfl

theorem runs_storeA {a : Word} (he : exec i s = storeA a k s) : Runs i s s.cpu [.memWrite a s.cpu.a] k :=
  .of_done he (Trace.memWrite s a _) rfl rfl rfl

/-- A change of A and F alone. -/
theorem runs_onA {f : Byte → Flags → Byte × Flags} (he : exec i s = onA f k s) :
    Runs i s (withAf s.cpu (f s.cpu.a (flagsOf s.cpu))) [] k :=
  .of_done he ((Trace.refl s).onCpu _) rfl rfl rfl

theorem runs_aluValue {op : AluOp} {v : Byte} (he : exec i s = aluValue op v k s) :
    Runs i s (withAf s.cpu (alu8 op s.cpu.a v (flagsOf s.cpu))) [] k :=
  .of_done he ((Trace.refl s).onCpu _) rfl rfl rfl

theorem runs_aluPlace {op : AluOp} {p : Place} (he : exec i s = aluPlace op p k s) :
    Runs i s (withAf s.cpu (alu8 op s.cpu.a (held s p) (flagsOf s.cpu))) (reads s p) k := by
  rw [← place_read_fst p s]
  refine .of_done (t := (p.read s).2.onCpu fun u => withAf u (alu8 op u.a (p.read s).1 u.flags)) he
    ((Trace.place_read p s).onCpu _) ?_ (by simp) (by simp)
  rw [State.onCpu_cpu, Place.read_cpu]
  rfl

theorem runs_modify {f : Byte → Flags → Byte × Flags} {p : Place} (he : exec i s = modify f p k s) :
    let r := f (held s p) (flagsOf s.cpu)
    Runs i s (withPlace (withF s.cpu r.2) p r.1) (reads s p ++ writes s p r.1) k := by
  have hf : (p.read s).2.cpu.flags = flagsOf s.cpu := by rw [Place.read_cpu]; rfl
  rw [← place_read_fst p s, ← hf]
  refine .of_done
    (t := p.write (f (p.read s).1 (p.read s).2.cpu.flags).1 ((p.read s).2.onCpu
      (·.setFlags (f (p.read s).1 (p.read s).2.cpu.flags).2))) he
    (((Trace.place_read p s).onCpu _).place_write p _ ?_ ?_) ?_ (by simp) (by simp)
  · rw [State.onCpu_cpu, Place.read_cpu]; rfl
  · intro x; rw [State.onCpu_cpu, Place.read_cpu]; cases x <;> rfl
  · rw [place_write_cpu, State.onCpu_cpu, Place.read_cpu]; rfl

theorem runs_modifyKeep {f : Byte → Byte} {p : Place} (he : exec i s = modifyKeep f p k s) :
    Runs i s (withPlace s.cpu p (f (held s p))) (reads s p ++ writes s p (f (held s p))) k := by
  rw [← place_read_fst p s]
  refine .of_done (t := p.write (f (p.read s).1) (p.read s).2) he
    ((Trace.place_read p s).place_write p _ (by simp) (by simp)) ?_ (by simp) (by simp)
  rw [place_write_cpu, Place.read_cpu]

theorem runs_modifyCopy {f : Byte → Flags → Byte × Flags} {x : Xy} {d : Byte} {r : R8}
    (he : exec i s = modifyCopy f x d r s) :
    let a := eaOf s x d
    let v := f (answer s a) (flagsOf s.cpu)
    Runs i s (withR8 (withF s.cpu v.2) r v.1) [rd s a, .memWrite a v.1] 23 :=
  .of_done he (((Trace.memRead s _).write _ _).onCpu _) (setR8_eq_withR8 _ r _) rfl rfl

theorem runs_modifyKeepCopy {f : Byte → Byte} {x : Xy} {d : Byte} {r : R8}
    (he : exec i s = modifyKeepCopy f x d r s) :
    let a := eaOf s x d
    Runs i s (withR8 s.cpu r (f (answer s a))) [rd s a, .memWrite a (f (answer s a))] 23 :=
  .of_done he (((Trace.memRead s _).write _ _).onCpu _) (setR8_eq_withR8 _ r _) rfl rfl

/-- A test of a bit in memory: bits 5 and 3 of F are those of the next free byte. -/
theorem runs_testMemBit {b : BitVec 3} {p : Place} (he : exec i s = testMemBit b p k s) :
    let free := Config.freeByte s.draws
    RunsTo i s (withF s.cpu (bitFlags b (held s p) (free.getLsbD 5) (free.getLsbD 3) (flagsOf s.cpu))) (reads s p) k
      (s.draws + 1) s.portIn := by
  rw [← place_read_fst p s]
  refine .of_done (t := (p.read s).2.draw.2.onCpu fun u => withF u (bitFlags b (p.read s).1
      ((p.read s).2.draw.1.getLsbD 5) ((p.read s).2.draw.1.getLsbD 3) u.flags)) he
    ((Trace.place_read p s).draw.onCpu _) ?_ (by simp) (by simp)
  simp only [State.onCpu_cpu, State.draw_snd_cpu, State.draw_fst, Place.read_cpu, place_read_draws]
  rfl

/-- The end of a block instruction that repeats until `stop` (R385). -/
theorem runsTo_repeatWhile {t : State} {xs : List BusAccess} {c : Bool} {u : Cpu} {draws : Nat} {portIn : List Byte}
    {stop : Prop} [Decidable stop] (he : exec i s = repeatWhile c t) (hc : c = true ↔ ¬ stop) (h : Trace s t xs)
    (hu : t.cpu = u) (hd : t.draws = draws) (hp : t.portIn = portIn) :
    RunsTo i s (if stop then u else { u with pc := u.pc - 2 }) xs (if stop then 16 else 21) draws portIn := by
  by_cases hs : stop
  · rw [if_pos hs, if_pos hs]
    rw [repeatWhile, if_neg (mt hc.mp (not_not_intro hs))] at he
    exact .of_done he h hu hd hp
  · rw [if_neg hs, if_neg hs, ← hu]
    rw [repeatWhile, if_pos (hc.mpr hs)] at he
    exact .of_done he (h.onCpu _) rfl hd hp

theorem runs_onHl {f : Word → Word → Flags → Word × Flags} {v : Word} (he : exec i s = onHl f v k s) :
    let r := f s.cpu.hl v (flagsOf s.cpu)
    Runs i s (withF (withRp s.cpu .hl r.1) r.2) [] k :=
  .of_done he ((Trace.refl s).onCpu _) rfl rfl rfl

theorem runs_onXy {f : Word → Word → Flags → Word × Flags} {x : Xy} {v : Word} (he : exec i s = onXy f x v k s) :
    let r := f (s.cpu.xy x) v (flagsOf s.cpu)
    Runs i s (withF (withXy s.cpu x r.1) r.2) [] k := by
  refine .of_done he ((Trace.refl s).onCpu _) ?_ rfl rfl
  rw [← setXy_eq_withXy]
  rfl

theorem runs_loadWord {put : Cpu → Word → Cpu} {a : Word} (he : exec i s = loadWord put a k s) :
    Runs i s (put s.cpu (wordAt s a)) (rd16 s a) k := by
  rw [← memRead16_eq_wordAt]
  exact .of_done he ((Trace.memRead16 s a).onCpu _) rfl rfl rfl

theorem runs_storeWord {a v : Word} (he : exec i s = storeWord a v k s) : Runs i s s.cpu (wr16 a v) k :=
  .of_done he (Trace.memWrite16 s a v) rfl rfl rfl

theorem runs_push {v : Word} (he : exec i s = (s.push v).done k) :
    Runs i s { s.cpu with sp := s.cpu.sp - 2 } (pushes s.cpu.sp v) k :=
  .of_done he (Trace.push s v) (push_cpu s v) rfl rfl

theorem runs_popTo {put : Cpu → Word → Cpu} (he : exec i s = popTo put k s) :
    Runs i s (put { s.cpu with sp := s.cpu.sp + 2 } (wordAt s s.cpu.sp)) (rd16 s s.cpu.sp) k := by
  rw [← memRead16_eq_wordAt]
  rw [popTo, pop_eq] at he
  exact .of_done he (((Trace.memRead16 s s.cpu.sp).onCpu _).onCpu _) rfl rfl rfl

theorem runs_exchangeTop {put : Cpu → Word → Cpu} {v : Word} (he : exec i s = exchangeTop v put k s) :
    Runs i s (put s.cpu (wordAt s s.cpu.sp)) (rd16 s s.cpu.sp ++ wr16 s.cpu.sp v) k := by
  rw [← memRead16_eq_wordAt]
  exact .of_done he (((Trace.memRead16 s s.cpu.sp).trans (Trace.memWrite16 _ s.cpu.sp v)).onCpu _) rfl rfl rfl

end Shapes

end Sys2Proof.Claims
end

section
/-! Loads, the stack and the exchanges: each instruction by the rule of its shape. -/

namespace Sys2Proof.Claims
open Sys2Proof.Machine

variable {i : Instr} {s : State} {k : Nat}

/-- A load of A from I or R. -/
theorem runs_loadAFrom {v : Byte} (he : exec i s = loadAFrom v k s) :
    Runs i s (withAf s.cpu (v, loadedFlags v s.cpu.iff2 (flagsOf s.cpu))) [] k :=
  .of_done he ((Trace.refl s).onCpu _) rfl rfl rfl

/-- The instructions of `halfLoads` move a byte between operands that are not in memory. -/
theorem halfLoads_moveByte (x : Xy) (s : State) (v : Byte) : ∀ e ∈ halfLoads x,
    exec e.1 s = moveByte e.2.1 e.2.2 8 s ∧ reads s e.2.2 = [] ∧ writes s e.2.1 v = [] := by
  intro e he
  fin_cases he <;> exact ⟨rfl, rfl, rfl⟩

/-- Settles O7, by the rules of the byte move and of the immediate. -/
theorem loadsBetweenRegisters : Obligations.LoadsBetweenRegisters := by
  unfold Obligations.LoadsBetweenRegisters
  refine ⟨fun r q s => runs_moveByte (dst := .reg r) (src := .reg q) rfl, fun r n s => runs_setByte (dst := .reg r) rfl,
    fun x n s => runs_setByte (dst := .xyHigh x) rfl, fun x n s => runs_setByte (dst := .xyLow x) rfl,
    fun x s e he => ?_⟩
  obtain ⟨hexec, hreads, hwrites⟩ := halfLoads_moveByte x s (held s e.2.2) e he
  have h := runs_moveByte hexec
  rwa [hreads, hwrites] at h

/-- Settles O8, by the rules of the byte move and of the load of A. -/
theorem loadsFromMemory : Obligations.LoadsFromMemory := by
  unfold Obligations.LoadsFromMemory
  have load (r : R8) (x : Xy) (d : Byte) (s : State) {i : Instr}
      (he : exec i s = moveByte (.reg r) (.indexed x d) 19 s) :
      Runs i s (withR8 s.cpu r (answer s (eaOf s x d))) [rd s (eaOf s x d)] 19 := runs_moveByte he
  exact ⟨fun r s => runs_moveByte (dst := .reg r) (src := .atHl) rfl, fun s => runs_loadA rfl, fun s => runs_loadA rfl,
    fun nn s => runs_loadA rfl, fun x d s => ⟨load .b x d s rfl, load .c x d s rfl, load .d x d s rfl,
      load .e x d s rfl, load .h x d s rfl, load .l x d s rfl, load .a x d s rfl⟩⟩

/-- Settles O9, by the rules of the byte move, of the immediate and of the store of A. -/
theorem storesToMemory : Obligations.StoresToMemory := by
  unfold Obligations.StoresToMemory
  have store (r : R8) (x : Xy) (d : Byte) (s : State) {i : Instr}
      (he : exec i s = moveByte (.indexed x d) (.reg r) 19 s) :
      Runs i s s.cpu [.memWrite (eaOf s x d) (s.cpu.r8 r)] 19 := runs_moveByte he
  exact ⟨fun r s => runs_moveByte (dst := .atHl) (src := .reg r) rfl, fun n s => runs_setByte (dst := .atHl) rfl,
    fun s => runs_storeA rfl, fun s => runs_storeA rfl, fun nn s => runs_storeA rfl,
    fun x d n s => runs_setByte (dst := .indexed x d) rfl, fun x d s => ⟨store .b x d s rfl, store .c x d s rfl,
      store .d x d s rfl, store .e x d s rfl, store .h x d s rfl, store .l x d s rfl, store .a x d s rfl⟩⟩

/-- Settles O10: the flags are those of `loadedFlags`. -/
theorem interruptAndRefreshLoads : Obligations.InterruptAndRefreshLoads := by
  unfold Obligations.InterruptAndRefreshLoads
  exact fun s => ⟨runs_loadAFrom rfl, runs_loadAFrom rfl, runs_cpuOnly (g := fun u => { u with i := u.a }) rfl,
    runs_cpuOnly (g := fun u => { u with r := u.a }) rfl⟩

/-- Settles O11: changes of the processor record alone. -/
theorem wordLoads : Obligations.WordLoads := by
  unfold Obligations.WordLoads
  exact ⟨fun p nn s => setRp_eq_withRp s.cpu p nn ▸ runs_cpuOnly (g := (·.setRp p nn)) rfl,
    fun x nn s => setXy_eq_withXy s.cpu x nn ▸ runs_cpuOnly (g := (·.setXy x nn)) rfl,
    fun s => runs_cpuOnly (g := fun u => { u with sp := u.hl }) rfl,
    fun x s => runs_cpuOnly (g := fun u => { u with sp := u.xy x }) rfl⟩

/-- Settles O12, by the rules of the word load and the word store. -/
theorem wordMemoryTransfers : Obligations.WordMemoryTransfers := by
  unfold Obligations.WordMemoryTransfers
  exact fun nn s => ⟨runs_loadWord (put := Cpu.setHl) rfl,
    fun p => setRp_eq_withRp s.cpu p _ ▸ runs_loadWord (put := fun u v => u.setRp p v) rfl,
    fun x => setXy_eq_withXy s.cpu x _ ▸ runs_loadWord (put := fun u v => u.setXy x v) rfl,
    runs_storeWord rfl, fun p => runs_storeWord rfl, fun x => runs_storeWord rfl⟩

/-- Settles O13, by the rules of push and pop. -/
theorem pushAndPop : Obligations.PushAndPop := by
  unfold Obligations.PushAndPop
  exact fun s => ⟨fun p => runs_push rfl, fun x => runs_push rfl,
    fun p => setRp2_eq_withRp2 _ p _ ▸ runs_popTo (put := fun u v => u.setRp2 p v) rfl,
    fun x => setXy_eq_withXy _ x _ ▸ runs_popTo (put := fun u v => u.setXy x v) rfl⟩

/-- HL set to the word two reads are answered. -/
theorem setHl_wordAt (u : Cpu) (s : State) (a : Word) :
    u.setHl (wordAt s a) = { u with h := answerAfter s [rd s a] (a + 1), l := answer s a } := by
  simp [Cpu.setHl, wordAt]

/-- Settles O14: two exchanges on the processor record, three through the top of the stack. -/
theorem exchanges : Obligations.Exchanges := by
  unfold Obligations.Exchanges
  exact fun s => ⟨runs_cpuOnly (g := fun u => { u with d := u.h, e := u.l, h := u.d, l := u.e }) rfl,
    runs_cpuOnly (g := fun u => { u.setAf u.afShadow with afShadow := u.af }) rfl,
    runs_cpuOnly (g := fun u => { ((u.setBc u.bcShadow).setDe u.deShadow).setHl u.hlShadow with
      bcShadow := u.bc, deShadow := u.de, hlShadow := u.hl }) rfl,
    setHl_wordAt s.cpu s _ ▸ runs_exchangeTop (put := Cpu.setHl) rfl,
    fun x => setXy_eq_withXy s.cpu x _ ▸ runs_exchangeTop (put := fun u v => u.setXy x v) rfl⟩

end Sys2Proof.Claims
end

section
/-! Arithmetic, control, rotates and bits: each instruction by the rule of its shape, the families over their operation
codes at once. -/

namespace Sys2Proof.Claims
open Sys2Proof.Machine

variable {i : Instr} {s : State} {k : Nat}

theorem held_indexed (s : State) (x : Xy) (d : Byte) : held s (.indexed x d) = answer s (eaOf s x d) := rfl

-- The families by operation code

theorem exec_aluR (op : AluOp) (r : R8) (s : State) : exec (aluR op r) s = aluPlace op (.reg r) 4 s := by
  cases op <;> rfl
theorem exec_aluN (op : AluOp) (n : Byte) (s : State) : exec (aluN op n) s = aluValue op n 7 s := by cases op <;> rfl
theorem exec_aluXyh (op : AluOp) (x : Xy) (s : State) : exec (aluXyh op x) s = aluPlace op (.xyHigh x) 8 s := by
  cases op <;> rfl
theorem exec_aluXyl (op : AluOp) (x : Xy) (s : State) : exec (aluXyl op x) s = aluPlace op (.xyLow x) 8 s := by
  cases op <;> rfl
theorem exec_aluMhl (op : AluOp) (s : State) : exec (aluMhl op) s = aluPlace op .atHl 7 s := by cases op <;> rfl
theorem exec_aluMxyd (op : AluOp) (x : Xy) (d : Byte) (s : State) :
    exec (aluMxyd op x d) s = aluPlace op (.indexed x d) 19 s := by
  cases op <;> rfl
theorem exec_rotR (op : RotOp) (r : R8) (s : State) : exec (rotR op r) s = modify (rotFlags op) (.reg r) 8 s := by
  cases op <;> rfl
theorem exec_rotMhl (op : RotOp) (s : State) : exec (rotMhl op) s = modify (rotFlags op) .atHl 15 s := by
  cases op <;> rfl
theorem exec_rotMxyd (op : RotOp) (x : Xy) (d : Byte) (s : State) :
    exec (rotMxyd op x d) s = modify (rotFlags op) (.indexed x d) 23 s := by
  cases op <;> rfl
theorem exec_rotMxydR (op : RotOp) (x : Xy) (d : Byte) (r : R8) (s : State) :
    exec (rotMxydR op x d r) s = modifyCopy (rotFlags op) x d r s := by
  cases op <;> rfl

/-- Settles O17, by the rules of an accumulator operation on a value and on an operand. -/
theorem accumulatorOnRegisters : Obligations.AccumulatorOnRegisters := by
  unfold Obligations.AccumulatorOnRegisters
  exact fun op s => ⟨fun r => runs_aluPlace (p := .reg r) (exec_aluR op r s),
    fun n => runs_aluValue (exec_aluN op n s), fun x => runs_aluPlace (p := .xyHigh x) (exec_aluXyh op x s),
    fun x => runs_aluPlace (p := .xyLow x) (exec_aluXyl op x s)⟩

/-- Settles O18, by the rule of an accumulator operation on an operand. -/
theorem accumulatorOnMemory : Obligations.AccumulatorOnMemory := by
  unfold Obligations.AccumulatorOnMemory
  refine fun op s => ⟨runs_aluPlace (p := .atHl) (exec_aluMhl op s), fun x d => ?_⟩
  simpa only [held_indexed, reads] using runs_aluPlace (exec_aluMxyd op x d s)

/-- Settles O19, by the rule of a read-modify-write. -/
theorem incrementsAndDecrements : Obligations.IncrementsAndDecrements := by
  unfold Obligations.IncrementsAndDecrements
  exact fun s => ⟨fun r => ⟨runs_modify (f := inc8) (p := .reg r) rfl, runs_modify (f := dec8) (p := .reg r) rfl⟩,
    fun x => ⟨runs_modify (f := inc8) (p := .xyHigh x) rfl, runs_modify (f := dec8) (p := .xyHigh x) rfl,
      runs_modify (f := inc8) (p := .xyLow x) rfl, runs_modify (f := dec8) (p := .xyLow x) rfl⟩,
    ⟨runs_modify (f := inc8) (p := .atHl) rfl, runs_modify (f := dec8) (p := .atHl) rfl⟩,
    fun x d => ⟨runs_modify (f := inc8) (p := .indexed x d) rfl, runs_modify (f := dec8) (p := .indexed x d) rfl⟩⟩

/-- Settles O20: changes of A and F alone. -/
theorem accumulatorAdjust : Obligations.AccumulatorAdjust := by
  unfold Obligations.AccumulatorAdjust
  exact fun s => ⟨runs_onA (f := daa) rfl,
    runs_onA (f := fun a g => (~~~a, { g.xy (~~~a) with h := true, n := true })) rfl,
    runs_onA (f := fun a _ => sub8 0 a false) rfl,
    runs_onA (f := fun a g => (a, { g.xy a with h := g.c, n := false, c := !g.c })) rfl,
    runs_onA (f := fun a g => (a, { g.xy a with h := false, n := false, c := true })) rfl⟩

/-- Settles O21: changes of the processor record alone. -/
theorem nopHaltAndModes : Obligations.NopHaltAndModes := by
  unfold Obligations.NopHaltAndModes
  exact fun s => ⟨runs_done rfl, runs_cpuOnly (g := fun u => { u with halted := true }) rfl,
    runs_cpuOnly (g := fun u => { u with im := .mode0 }) rfl, runs_cpuOnly (g := fun u => { u with im := .mode1 }) rfl,
    runs_cpuOnly (g := fun u => { u with im := .mode2 }) rfl⟩

/-- EI arms the delay to 2 unless it is armed. -/
theorem runs_ei (s : State) :
    Runs .ei s { s.cpu with eiDelay := if s.cpu.eiDelay = 0 then 2 else s.cpu.eiDelay } [] 4 :=
  runs_cpuOnly (g := fun u => { u with eiDelay := if u.eiDelay = 0 then 2 else u.eiDelay }) rfl

/-- Settles O22, by the two cases of the delay for EI. -/
theorem disableAndEnable : Obligations.DisableAndEnable := by
  unfold Obligations.DisableAndEnable
  refine fun s => ⟨runs_cpuOnly (g := fun u => { u with
      iff1 := false, iff2 := false, eiDelay := if s.params.diCancelsEiDelay then 0 else u.eiDelay }) rfl,
    fun hz => ?_, fun hnz => ?_⟩
  · simpa only [if_pos hz] using runs_ei s
  · simpa only [if_neg hnz] using runs_ei s

/-- Settles O23: taking the exception is one change of the state. -/
theorem illegalOpcodesRollBack : Obligations.IllegalOpcodesRollBack := by
  unfold Obligations.IllegalOpcodesRollBack
  exact fun s => ⟨fun op => rfl, rfl, rfl⟩

/-- Settles O24, by the rules of a 16-bit operation on HL and on an index register. -/
theorem wordArithmetic : Obligations.WordArithmetic := by
  unfold Obligations.WordArithmetic
  exact fun s => ⟨fun p => ⟨runs_onHl (f := add16) rfl, runs_onHl (f := fun a b g => adc16 a b g.c) rfl,
    runs_onHl (f := fun a b g => sbc16 a b g.c) rfl⟩, fun x p => runs_onXy (f := add16) rfl⟩

/-- Settles O25: changes of the processor record alone. -/
theorem wordIncrements : Obligations.WordIncrements := by
  unfold Obligations.WordIncrements
  refine fun s => ⟨fun p => ?_, fun x => ?_⟩
  · rw [← setRp_eq_withRp, ← setRp_eq_withRp]
    exact ⟨runs_cpuOnly (g := fun u => u.setRp p (u.rp p + 1)) rfl,
      runs_cpuOnly (g := fun u => u.setRp p (u.rp p - 1)) rfl⟩
  · rw [← setXy_eq_withXy, ← setXy_eq_withXy]
    exact ⟨runs_cpuOnly (g := fun u => u.setXy x (u.xy x + 1)) rfl,
      runs_cpuOnly (g := fun u => u.setXy x (u.xy x - 1)) rfl⟩

/-- Settles O26: changes of A and F alone. -/
theorem accumulatorRotates : Obligations.AccumulatorRotates := by
  unfold Obligations.AccumulatorRotates
  exact fun s => ⟨runs_onA (f := rotAFlags .rlc) rfl, runs_onA (f := rotAFlags .rl) rfl,
    runs_onA (f := rotAFlags .rrc) rfl, runs_onA (f := rotAFlags .rr) rfl⟩

/-- Settles O27, by the rules of a read-modify-write and of the one with the register copy. -/
theorem rotatesAndShifts : Obligations.RotatesAndShifts := by
  unfold Obligations.RotatesAndShifts
  refine fun op s => ⟨fun r => ?_, ?_, fun x d => ⟨?_, fun r => ?_⟩⟩
  · have h := runs_modify (exec_rotR op r s)
    exact h
  · have h := runs_modify (exec_rotMhl op s)
    exact h
  · have h := runs_modify (exec_rotMxyd op x d s)
    simp only [held_indexed, reads, writes] at h
    exact h
  · have h := runs_modifyCopy (exec_rotMxydR op x d r s)
    exact h

-- RLD and RRD in digits

theorem and_f0_eq_ofNat : ∀ a : Byte, a &&& 0xF0 = BitVec.ofNat 8 (16 * (a.toNat / 16)) := by decide
theorem and_0f_eq_ofNat : ∀ a : Byte, a &&& 0x0F = BitVec.ofNat 8 (a.toNat % 16) := by decide
theorem ushiftRight_four_eq_ofNat : ∀ a : Byte, a >>> 4 = BitVec.ofNat 8 (a.toNat / 16) := by decide
theorem shiftLeft_four_eq_ofNat : ∀ a : Byte, a <<< 4 = BitVec.ofNat 8 (16 * (a.toNat % 16)) := by decide
theorem and_0f_shiftLeft_four_eq_ofNat : ∀ a : Byte, (a &&& 0x0F) <<< 4 = BitVec.ofNat 8 (16 * (a.toNat % 16)) := by
  decide

/-- A high and a low digit side by side. -/
theorem digits_or (h : Nat) {w : Nat} (hw : w < 16) :
    BitVec.ofNat 8 (16 * h) ||| BitVec.ofNat 8 w = BitVec.ofNat 8 (16 * h + w) := by
  rw [← BitVec.ofNat_or]
  exact congrArg _ (Nat.two_pow_add_eq_or_of_lt (i := 4) hw h).symm

/-- A byte read at HL, another one written back, and a new A with the flags of a loaded byte (R553, R554). -/
theorem runs_digits {a v : Byte}
    (he : exec i s = (((s.memRead s.cpu.hl).2.memWrite s.cpu.hl v).onCpu fun u =>
      { u with a := a }.setFlags (loadedFlags a (parity a) u.flags)).done k) :
    Runs i s (withAf s.cpu (a, loadedFlags a (parity a) (flagsOf s.cpu))) [rd s s.cpu.hl, .memWrite s.cpu.hl v] k :=
  .of_done he (((Trace.memRead s _).write _ _).onCpu _) rfl rfl rfl

/-- Settles O28, by the digits of the two bytes RLD and RRD form. -/
theorem decimalRotates : Obligations.DecimalRotates := by
  unfold Obligations.DecimalRotates
  intro s h l u w after
  have hu : u < 16 := Nat.div_lt_of_lt_mul (answer s s.cpu.hl).isLt
  have hl : l < 16 := Nat.mod_lt _ (by decide)
  have hw : w < 16 := Nat.mod_lt _ (by decide)
  rw [← digits_or h hu, ← digits_or h hw, ← digits_or w hl, ← digits_or l hu, ← and_f0_eq_ofNat,
    ← ushiftRight_four_eq_ofNat, ← and_0f_eq_ofNat, ← and_0f_eq_ofNat]
  constructor
  · rw [← shiftLeft_four_eq_ofNat]
    exact runs_digits rfl
  · rw [← and_0f_shiftLeft_four_eq_ofNat]
    exact runs_digits rfl

-- Bits

/-- S of a bit test is the bit itself, where it is bit 7. -/
theorem bitFlags_eq (b : BitVec 3) (v : Byte) (x5 x3 : Bool) (g : Flags) :
    bitFlags b v x5 x3 g =
      { s := b == 7 && v.getLsbD b.toNat, z := !v.getLsbD b.toNat, f5 := x5, h := true, f3 := x3,
        pv := !v.getLsbD b.toNat, n := false, c := g.c } := by
  by_cases hb : b = 7
  · subst hb; rfl
  · simp only [bitFlags, beq_eq_false_iff_ne.mpr hb, Bool.false_and]

/-- Settles O29: the free value is the next draw. -/
theorem bitTests : Obligations.BitTests := by
  unfold Obligations.BitTests
  refine fun b s => ⟨fun r => ?_, ⟨Config.freeByte s.draws, ?_⟩,
    fun x d z => ⟨Config.freeByte s.draws, ?_⟩⟩
  · have h := runs_cpuOnly (i := .bitBR b r) (s := s) (k := 8) (g := fun u => u.setFlags (bitFlags b (u.r8 r)
      ((u.r8 r).getLsbD 5) ((u.r8 r).getLsbD 3) u.flags)) rfl
    simp only [bitFlags_eq] at h
    exact h
  · have h := runs_testMemBit (i := .bitBMhl b) (s := s) (k := 12) (b := b) (p := .atHl) rfl
    simp only [bitFlags_eq] at h
    exact h
  · have h := runs_testMemBit (i := .bitBMxyd x d b z) (s := s) (k := 20) (b := b) (p := .indexed x d) rfl
    simp only [bitFlags_eq] at h
    exact h

theorem bitMask_getLsbD (b : BitVec 3) (k : Nat) (hk : k < 8) : (bitMask b).getLsbD k = decide (k = b.toNat) := by
  revert b k
  decide

/-- Settles O30: the masks differ in bit b alone, and each form runs by the rule of its shape. -/
theorem bitChanges : Obligations.BitChanges := by
  unfold Obligations.BitChanges
  refine ⟨fun b v k hk => ?_, fun b s =>
    ⟨fun r => ⟨runs_modifyKeep (p := .reg r) rfl, runs_modifyKeep (p := .reg r) rfl⟩,
    ⟨runs_modifyKeep (p := .atHl) rfl, runs_modifyKeep (p := .atHl) rfl⟩,
    fun x d => ⟨runs_modifyKeep (p := .indexed x d) rfl, runs_modifyKeep (p := .indexed x d) rfl,
      fun r => ⟨runs_modifyKeepCopy rfl, runs_modifyKeepCopy rfl⟩⟩⟩⟩
  simp only [resBit, setBit, BitVec.getLsbD_and, BitVec.getLsbD_or, BitVec.getLsbD_not, bitMask_getLsbD b k hk, hk]
  by_cases h : k = b.toNat <;> simp [h]

end Sys2Proof.Claims
end

section
/-! Block instructions, jumps, calls, returns and port transfers. -/

namespace Sys2Proof.Claims
open Sys2Proof.Machine

variable {i : Instr} {s : State} {k : Nat}

-- Block transfers and compares (R386 to R393)

/-- The processor record after one block transfer. -/
theorem blockLd_cpu (d : Word) (s : State) : (blockLd d s).cpu =
    withF (withRp (withRp (withRp s.cpu .hl (s.cpu.hl + d)) .de (s.cpu.de + d)) .bc (s.cpu.bc - 1))
      (blockLdFlags s.cpu.a (answer s s.cpu.hl) (s.cpu.bc - 1) (flagsOf s.cpu)) := rfl

theorem blockLd_draws (d : Word) (s : State) : (blockLd d s).draws = s.draws := rfl
theorem blockLd_portIn (d : Word) (s : State) : (blockLd d s).portIn = s.portIn := rfl

theorem Trace.blockLd (d : Word) (s : State) :
    Trace s (blockLd d s) [rd s s.cpu.hl, .memWrite s.cpu.de (answer s s.cpu.hl)] := by
  unfold Machine.blockLd
  exact ((memRead s _).write _ _).onCpu _

theorem ldContinues_blockLd (d : Word) (s : State) : ldContinues (blockLd d s) = true ↔ ¬ s.cpu.bc - 1 = 0 := by
  have hbc : (blockLd d s).cpu.bc = s.cpu.bc - 1 := wordOf_hiByte_loByte _
  rw [ldContinues, hbc, bne_iff_ne]

/-- Settles O15, by the trace of one transfer and the end of a repeating instruction. -/
theorem blockTransfers : Obligations.BlockTransfers := by
  unfold Obligations.BlockTransfers
  exact fun s => ⟨.of_done rfl (Trace.blockLd 1 s) (blockLd_cpu 1 s) (blockLd_draws 1 s) (blockLd_portIn 1 s),
    .of_done rfl (Trace.blockLd (-1) s) (blockLd_cpu (-1) s) (blockLd_draws (-1) s) (blockLd_portIn (-1) s),
    runsTo_repeatWhile rfl (ldContinues_blockLd 1 s) (Trace.blockLd 1 s)
      (blockLd_cpu 1 s) (blockLd_draws 1 s) (blockLd_portIn 1 s),
    runsTo_repeatWhile rfl (ldContinues_blockLd (-1) s) (Trace.blockLd (-1) s)
      (blockLd_cpu (-1) s) (blockLd_draws (-1) s) (blockLd_portIn (-1) s)⟩

theorem blockCp_draws (d : Word) (s : State) : (blockCp d s).draws = s.draws := rfl
theorem blockCp_portIn (d : Word) (s : State) : (blockCp d s).portIn = s.portIn := rfl

theorem Trace.blockCp (d : Word) (s : State) : Trace s (blockCp d s) [rd s s.cpu.hl] := by
  unfold Machine.blockCp
  exact (memRead s _).onCpu _

/-- The processor record after one block compare. -/
theorem blockCp_cpu (d : Word) (s : State) : (blockCp d s).cpu =
    withF (withRp (withRp s.cpu .hl (s.cpu.hl + d)) .bc (s.cpu.bc - 1))
      (blockCpFlags s.cpu.a (answer s s.cpu.hl) (s.cpu.bc - 1) (flagsOf s.cpu)) := rfl

/-- A Boolean as a byte. -/
theorem ofBool_setWidth_eq (h : Bool) : (BitVec.ofBool h).setWidth 8 = (if h then 1 else 0 : Byte) := by cases h <;> rfl

theorem cpContinues_blockCp (d : Word) (s : State) :
    cpContinues (blockCp d s) = true ↔ ¬ (s.cpu.bc - 1 = 0 ∨ s.cpu.a = answer s s.cpu.hl) := by
  have hbc : (blockCp d s).cpu.bc = s.cpu.bc - 1 := wordOf_hiByte_loByte _
  have hz : (blockCp d s).cpu.flags.z = (s.cpu.a - answer s s.cpu.hl == 0) := by
    rw [blockCp_cpu]
    exact congrArg Flags.z (Cpu.flags_setFlags _ _)
  rw [cpContinues, hbc, hz, Bool.and_eq_true, bne_iff_ne, Bool.not_eq_true', beq_eq_false_iff_ne, not_or, ne_eq, ne_eq,
    sub_eq_zero (a := s.cpu.a)]

/-- Settles O16, by the trace of one compare and the end of a repeating instruction. -/
theorem blockCompares : Obligations.BlockCompares := by
  unfold Obligations.BlockCompares
  intro s
  simp only [← ofBool_setWidth_eq]
  exact ⟨.of_done rfl (Trace.blockCp 1 s) (blockCp_cpu 1 s) (blockCp_draws 1 s) (blockCp_portIn 1 s),
    .of_done rfl (Trace.blockCp (-1) s) (blockCp_cpu (-1) s) (blockCp_draws (-1) s) (blockCp_portIn (-1) s),
    runsTo_repeatWhile rfl (cpContinues_blockCp 1 s) (Trace.blockCp 1 s)
      (blockCp_cpu 1 s) (blockCp_draws 1 s) (blockCp_portIn 1 s),
    runsTo_repeatWhile rfl (cpContinues_blockCp (-1) s) (Trace.blockCp (-1) s)
      (blockCp_cpu (-1) s) (blockCp_draws (-1) s) (blockCp_portIn (-1) s)⟩

-- Jumps, calls, returns

theorem flags_cond (u : Cpu) (cc : Cond) : u.flags.cond cc = holds cc u := by cases cc <;> rfl

theorem sub_one_eq_zero_iff (b : Byte) : b - 1 = 0 ↔ b = 1 := sub_eq_zero

theorem Trace.jump {s t : State} {xs : List BusAccess} (h : Trace s t xs) (a : Word) : Trace s (t.jump a) xs :=
  h.onCpu _

theorem runs_call {a : Word} (he : exec i s = (s.call a).done k) :
    Runs i s { s.cpu with sp := s.cpu.sp - 2, pc := a } (pushes s.cpu.sp s.cpu.pc) k := by
  refine .of_done (t := (s.push s.cpu.pc).onCpu fun u => { u with pc := a }) he ((Trace.push s _).onCpu _) ?_ rfl rfl
  rw [State.onCpu_cpu, push_cpu]

theorem runs_popPc (he : exec i s = s.popPc.done k) :
    Runs i s { s.cpu with sp := s.cpu.sp + 2, pc := wordAt s s.cpu.sp } (rd16 s s.cpu.sp) k := by
  rw [popPc_eq, memRead16_eq_wordAt] at he
  exact .of_done he ((Trace.memRead16 s _).onCpu _) rfl rfl rfl

theorem runs_returnFromInterrupt (he : exec i s = s.returnFromInterrupt.done k) :
    Runs i s { s.cpu with sp := s.cpu.sp + 2, pc := wordAt s s.cpu.sp, iff1 := s.cpu.iff2 } (rd16 s s.cpu.sp) k := by
  rw [returnFromInterrupt_eq, memRead16_eq_wordAt] at he
  exact .of_done he ((Trace.memRead16 s _).onCpu _) rfl rfl rfl

theorem exec_jrCc (cc : Cond) (e : Byte) (s : State) :
    exec (.jrCc cc e) s = if holds cc s.cpu then (s.jumpRel e).done 12 else s.done 7 := by
  rw [← flags_cond]
  rfl

theorem exec_jpCcNn (cc : Cond) (nn : Word) (s : State) :
    exec (.jpCcNn cc nn) s = (if holds cc s.cpu then s.jump nn else s).done 10 := by
  rw [← flags_cond]
  rfl

theorem exec_callCcNn (cc : Cond) (nn : Word) (s : State) :
    exec (.callCcNn cc nn) s = if holds cc s.cpu then (s.call nn).done 17 else s.done 10 := by
  rw [← flags_cond]
  rfl

theorem exec_retCc (cc : Cond) (s : State) :
    exec (.retCc cc) s = if holds cc s.cpu then s.popPc.done 11 else s.done 5 := by
  rw [← flags_cond]
  rfl

theorem exec_djnz (e : Byte) (s : State) :
    exec (.djnz e) s =
      let t := s.onCpu fun u => { u with b := u.b - 1 }
      if s.cpu.b = 1 then t.done 8 else (t.jumpRel e).done 13 := by
  simp only [← sub_one_eq_zero_iff]
  rfl

/-- Settles O31, by the two outcomes of each condition. -/
theorem jumps : Obligations.Jumps := by
  unfold Obligations.Jumps
  intro s jumped
  refine ⟨fun nn => runs_jump rfl, fun cc nn => ?_, runs_jump rfl, fun x => runs_jump rfl, fun e => runs_jump rfl,
    fun cc e => ?_, fun e => ?_⟩
  · have he := exec_jpCcNn cc nn s
    by_cases h : holds cc s.cpu = true
    · rw [if_pos h] at he ⊢
      exact runs_jump he
    · rw [if_neg h] at he ⊢
      exact runs_done he
  · have he := exec_jrCc cc e s
    by_cases h : holds cc s.cpu = true
    · rw [if_pos h] at he
      rw [if_pos h, if_pos h]
      exact runs_jump he
    · rw [if_neg h] at he
      rw [if_neg h, if_neg h]
      exact runs_done he
  · have he := exec_djnz e s
    by_cases h : s.cpu.b = 1
    · simp only [if_pos h] at he ⊢
      exact .of_done he ((Trace.refl s).onCpu _) rfl rfl rfl
    · simp only [if_neg h] at he ⊢
      exact .of_done he (((Trace.refl s).onCpu _).jump _) rfl rfl rfl

theorem rstTarget : ∀ p : BitVec 3, p.setWidth 16 <<< 3 = BitVec.ofNat 16 (8 * p.toNat) := by decide

/-- Settles O32, by the trace of a push. -/
theorem calls : Obligations.Calls := by
  unfold Obligations.Calls
  refine fun s => ⟨fun nn => runs_call rfl, fun cc nn h => ?_, fun cc nn h => ?_, fun p => ?_⟩
  · exact runs_call (by rw [exec_callCcNn, if_pos h])
  · exact runs_done (by rw [exec_callCcNn, h]; rfl)
  · rw [← rstTarget]
    exact runs_call rfl

/-- Settles O33, by the trace of a pop. -/
theorem returns : Obligations.Returns := by
  unfold Obligations.Returns
  refine fun s => ⟨runs_popPc rfl, fun cc h => ?_, fun cc h => ?_, runs_returnFromInterrupt rfl,
    runs_returnFromInterrupt rfl⟩
  · exact runs_popPc (by rw [exec_retCc, if_pos h])
  · exact runs_done (by rw [exec_retCc, h]; rfl)

-- Ports

/-- A byte read from a port, and a change of the processor record from it. -/
theorem runsTo_portRead {port : Word} {g : Byte → Cpu → Cpu}
    (he : exec i s = ((s.portRead port).2.onCpu (g (s.portRead port).1)).done k) :
    RunsTo i s (g (s.portRead port).1 s.cpu) [.portRead port (s.portRead port).1] k (s.portRead port).2.draws
      (s.portRead port).2.portIn :=
  .of_done he ((Trace.portRead s port).onCpu _) (by simp) rfl rfl

theorem runs_portWrite {port : Word} {v : Byte} (he : exec i s = (s.portWrite port v).done k) :
    Runs i s s.cpu [.portWrite port v] k :=
  .of_done he (Trace.portWrite s port v) rfl rfl rfl

/-- IN A,(n), whatever the host answers. -/
theorem runsTo_inAMn (n : Byte) (s : State) :
    RunsTo (.inAMn n) s { s.cpu with a := (s.portRead (s.immPort n)).1 }
      [.portRead (s.immPort n) (s.portRead (s.immPort n)).1] 11 (s.portRead (s.immPort n)).2.draws
      (s.portRead (s.immPort n)).2.portIn :=
  runsTo_portRead (g := fun v u => { u with a := v }) rfl

/-- IN r,(C), whatever the host answers. -/
theorem runsTo_inRMc (r : R8) (s : State) :
    RunsTo (.inRMc r) s
      (withF (withR8 s.cpu r (s.portRead s.cpu.bc).1)
        (loadedFlags (s.portRead s.cpu.bc).1 (parity (s.portRead s.cpu.bc).1) (flagsOf s.cpu)))
      [.portRead s.cpu.bc (s.portRead s.cpu.bc).1] 12 (s.portRead s.cpu.bc).2.draws (s.portRead s.cpu.bc).2.portIn := by
  have h := runsTo_portRead (i := .inRMc r) (s := s) (port := s.cpu.bc) (k := 12)
    (g := fun v u => (u.setR8 r v).setFlags (loadedFlags v (parity v) u.flags)) rfl
  simp only [setR8_eq_withR8] at h
  exact h

/-- Settles O34, by the rules of a port read and a port write, with the host's answer scripted or free. -/
theorem portTransfers : Obligations.PortTransfers := by
  unfold Obligations.PortTransfers
  refine fun s => ⟨fun v rest hv => ⟨fun n => ?_, fun r => ?_⟩, fun he =>
    ⟨fun n => ⟨Config.portAnswer s.draws (s.immPort n), ?_⟩, fun r => ⟨Config.portAnswer s.draws s.cpu.bc, ?_⟩⟩,
    fun n => runs_portWrite rfl, fun r => runs_portWrite rfl⟩
  · have h := runsTo_inAMn n s
    rw [State.portRead_scripted s _ hv] at h
    exact h
  · have h := runsTo_inRMc r s
    rw [State.portRead_scripted s _ hv] at h
    exact h
  · have h := runsTo_inAMn n s
    rw [State.portRead_free s _ he, he] at h
    exact h
  · have h := runsTo_inRMc r s
    rw [State.portRead_free s _ he, he] at h
    exact h

-- Block input and output (R652 to R661)

/-- The processor record after one block input or output that drew the free byte `free`. -/
def blockIoCpu (d : Word) (free : Byte) (u : Cpu) : Cpu :=
  withF { withRp u .hl (u.hl + d) with b := u.b - 1 } (blockIoFlags free (u.b - 1))

theorem blockIn_eq (d : Word) (s : State) :
    blockIn d s = ((s.portRead s.cpu.bc).2.memWrite s.cpu.hl (s.portRead s.cpu.bc).1).draw.2.onCpu
      (blockIoCpu d (Config.freeByte (s.portRead s.cpu.bc).2.draws)) := by
  have hhl : (s.portRead s.cpu.bc).2.cpu.hl = s.cpu.hl := congrArg Cpu.hl (State.portRead_snd_cpu s s.cpu.bc)
  rw [← hhl]
  rfl

theorem blockIn_draws (d : Word) (s : State) : (blockIn d s).draws = (s.portRead s.cpu.bc).2.draws + 1 := rfl
theorem blockIn_portIn (d : Word) (s : State) : (blockIn d s).portIn = (s.portRead s.cpu.bc).2.portIn := rfl

theorem Trace.blockIn (d : Word) (s : State) : Trace s (blockIn d s)
    [.portRead s.cpu.bc (s.portRead s.cpu.bc).1, .memWrite s.cpu.hl (s.portRead s.cpu.bc).1] := by
  rw [blockIn_eq]
  exact ((portRead s _).write _ _).draw.onCpu _

theorem blockIn_cpu (d : Word) (s : State) :
    (blockIn d s).cpu = blockIoCpu d (Config.freeByte (s.portRead s.cpu.bc).2.draws) s.cpu := by
  rw [blockIn_eq]
  exact congrArg (blockIoCpu d _) (State.portRead_snd_cpu s s.cpu.bc)

theorem blockOut_draws (d : Word) (s : State) : (blockOut d s).draws = s.draws + 1 := rfl
theorem blockOut_portIn (d : Word) (s : State) : (blockOut d s).portIn = s.portIn := rfl

theorem Trace.blockOut (d : Word) (s : State) : Trace s (blockOut d s)
    [rd s s.cpu.hl, .portWrite (wordOf (s.cpu.b - 1) s.cpu.c) (answer s s.cpu.hl)] := by
  unfold Machine.blockOut
  exact ((((memRead s _).onCpu _).trans (portWrite _ _ _)).draw).onCpu _

theorem blockOut_cpu (d : Word) (s : State) :
    (blockOut d s).cpu = blockIoCpu d (Config.freeByte s.draws) s.cpu := rfl

/-- B after a block input or output decides whether it repeats. -/
theorem ioContinues_iff {t : State} {d : Word} {free : Byte} (h : t.cpu = blockIoCpu d free s.cpu) :
    ioContinues t = true ↔ ¬ s.cpu.b = 1 := by
  rw [ioContinues, h, bne_iff_ne, ne_eq, ← sub_one_eq_zero_iff]
  rfl

/-- The flags of block input and output, with B before the decrement. -/
theorem blockIoFlags_sub_one (free b : Byte) :
    blockIoFlags free (b - 1) =
      { s := free.getLsbD 7, z := b == 1, f5 := free.getLsbD 5, h := free.getLsbD 4, f3 := free.getLsbD 3,
        pv := b != 1, n := free.getLsbD 1, c := free.getLsbD 0 } := by
  have hz : (b - 1 == 0) = (b == 1) := by simp only [beq_eq_beq, sub_one_eq_zero_iff]
  rw [blockIoFlags, bne, hz]
  rfl

/-- The block inputs, whatever the host answers. -/
theorem runsTo_blockIn (s : State) :
    let r := s.portRead s.cpu.bc
    let accesses := [.portRead s.cpu.bc r.1, .memWrite s.cpu.hl r.1]
    let moved (d : Word) : Cpu := blockIoCpu d (Config.freeByte r.2.draws) s.cpu
    let again (u : Cpu) : Cpu := if s.cpu.b = 1 then u else { u with pc := u.pc - 2 }
    let cost := if s.cpu.b = 1 then 16 else 21
    RunsTo .ini s (moved 1) accesses 16 (r.2.draws + 1) r.2.portIn ∧
    RunsTo .ind s (moved (-1)) accesses 16 (r.2.draws + 1) r.2.portIn ∧
    RunsTo .inir s (again (moved 1)) accesses cost (r.2.draws + 1) r.2.portIn ∧
    RunsTo .indr s (again (moved (-1))) accesses cost (r.2.draws + 1) r.2.portIn :=
  ⟨.of_done rfl (Trace.blockIn 1 s) (blockIn_cpu 1 s) (blockIn_draws 1 s) (blockIn_portIn 1 s),
    .of_done rfl (Trace.blockIn (-1) s) (blockIn_cpu (-1) s) (blockIn_draws (-1) s) (blockIn_portIn (-1) s),
    runsTo_repeatWhile rfl (ioContinues_iff (blockIn_cpu 1 s)) (Trace.blockIn 1 s)
      (blockIn_cpu 1 s) (blockIn_draws 1 s) (blockIn_portIn 1 s),
    runsTo_repeatWhile rfl (ioContinues_iff (blockIn_cpu (-1) s)) (Trace.blockIn (-1) s)
      (blockIn_cpu (-1) s) (blockIn_draws (-1) s) (blockIn_portIn (-1) s)⟩

/-- Settles O35, with the host's answer scripted or free. -/
theorem blockInput : Obligations.BlockInput := by
  unfold Obligations.BlockInput
  intro s
  have h := runsTo_blockIn s
  simp only [blockIoCpu, blockIoFlags_sub_one] at h
  refine ⟨fun v rest hv => ?_, fun he => ?_⟩
  · rw [State.portRead_scripted s _ hv] at h
    exact ⟨_, h⟩
  · rw [State.portRead_free s _ he, he] at h
    exact ⟨_, _, h⟩

/-- Settles O36, by the trace of one output and the end of a repeating instruction. -/
theorem blockOutput : Obligations.BlockOutput := by
  unfold Obligations.BlockOutput
  intro s
  simp only [← blockIoFlags_sub_one]
  exact ⟨Config.freeByte s.draws, .of_done rfl (Trace.blockOut 1 s)
      (blockOut_cpu 1 s) (blockOut_draws 1 s) (blockOut_portIn 1 s),
    .of_done rfl (Trace.blockOut (-1) s) (blockOut_cpu (-1) s) (blockOut_draws (-1) s) (blockOut_portIn (-1) s),
    runsTo_repeatWhile rfl (ioContinues_iff (blockOut_cpu 1 s)) (Trace.blockOut 1 s)
      (blockOut_cpu 1 s) (blockOut_draws 1 s) (blockOut_portIn 1 s),
    runsTo_repeatWhile rfl (ioContinues_iff (blockOut_cpu (-1) s)) (Trace.blockOut (-1) s)
      (blockOut_cpu (-1) s) (blockOut_draws (-1) s) (blockOut_portIn (-1) s)⟩

end Sys2Proof.Claims
end

section
/-! The 8-bit ALU in the integers (spec/40_alu.md R200 to R209, R213, R214, R222). -/

namespace Sys2Proof.Machine

-- Results and their bits

/-- Sign, bits 5 and 3 and zero of a byte that holds an integer modulo 256. -/
theorem byte_bits_of_toNat_eq {r : Byte} {t : Int} (h : (r.toNat : Int) = t % 256) :
    (r.getLsbD 7 = true ↔ 128 ≤ t % 256) ∧ (r.getLsbD 5 = true ↔ t / 32 % 2 = 1) ∧
      (r.getLsbD 3 = true ↔ t / 8 % 2 = 1) ∧ ((r == 0) = true ↔ t % 256 = 0) := by
  simp only [getLsbD_iff_div_mod, beq_zero_iff_toNat]
  refine ⟨?_, ?_, ?_, ?_⟩ <;> omega

theorem Flags.eq_of_fields {g k : Flags} (hs : g.s = k.s) (hz : g.z = k.z) (h5 : g.f5 = k.f5) (hh : g.h = k.h)
    (h3 : g.f3 = k.f3) (hpv : g.pv = k.pv) (hn : g.n = k.n) (hc : g.c = k.c) : g = k := by
  cases g
  cases k
  simp_all

-- Addition and subtraction (R201 to R203)

/-- S, Z, 5 and 3 of an addition are read off the result. -/
theorem add8_result_flags (a b : Byte) (c : Bool) :
    let r := add8 a b c
    r.2.s = r.1.getLsbD 7 ∧ r.2.z = (r.1 == 0) ∧ r.2.f5 = r.1.getLsbD 5 ∧ r.2.f3 = r.1.getLsbD 3 :=
  ⟨rfl, rfl, rfl, rfl⟩

theorem sub8_result_flags (a b : Byte) (c : Bool) :
    let r := sub8 a b c
    r.2.s = r.1.getLsbD 7 ∧ r.2.z = (r.1 == 0) ∧ r.2.f5 = r.1.getLsbD 5 ∧ r.2.f3 = r.1.getLsbD 3 :=
  ⟨rfl, rfl, rfl, rfl⟩

/-- PV of an addition: the operands have one sign and the result the other. -/
theorem add8_pv_iff_signs (a b : Byte) (c : Bool) :
    (add8 a b c).2.pv = true ↔
      (128 ≤ a.toNat ↔ 128 ≤ b.toNat) ∧ ¬(128 ≤ (add8 a b c).1.toNat ↔ 128 ≤ a.toNat) := by
  have hpv : (add8 a b c).2.pv = (a.getLsbD 7 == b.getLsbD 7 && (add8 a b c).1.getLsbD 7 != a.getLsbD 7) := rfl
  rw [hpv, Bool.and_eq_true, beq_iff_eq, bne_iff_ne, ne_eq, getLsbD_seven_eq_iff, getLsbD_seven_eq_iff]

/-- PV of a subtraction: the operands have different signs, and the result not that of the first. -/
theorem sub8_pv_iff_signs (a b : Byte) (c : Bool) :
    (sub8 a b c).2.pv = true ↔
      ¬(128 ≤ a.toNat ↔ 128 ≤ b.toNat) ∧ ¬(128 ≤ (sub8 a b c).1.toNat ↔ 128 ≤ a.toNat) := by
  have hpv : (sub8 a b c).2.pv = (a.getLsbD 7 != b.getLsbD 7 && (sub8 a b c).1.getLsbD 7 != a.getLsbD 7) := rfl
  rw [hpv, Bool.and_eq_true, bne_iff_ne, bne_iff_ne, ne_eq, ne_eq, getLsbD_seven_eq_iff, getLsbD_seven_eq_iff]

theorem complement_toNat (b : Byte) : (~~~b).toNat = 255 - b.toNat := BitVec.toNat_not

theorem not_toNat (c : Bool) : (!c).toNat = 1 - c.toNat := by cases c <;> rfl

/-- The result of a subtraction is that of the addition of the complement. -/
theorem sub8_fst_eq_add8 (a b : Byte) (c : Bool) : (sub8 a b c).1 = (add8 a (~~~b) (!c)).1 := by
  have hsub := sub8_toNat a b c
  have hc := c.toNat_le
  have hb := b.isLt
  apply BitVec.eq_of_toNat_eq
  rw [add8_toNat, complement_toNat, not_toNat]
  omega

theorem sub8_h_eq_add8 (a b : Byte) (c : Bool) : (sub8 a b c).2.h = !(add8 a (~~~b) (!c)).2.h := by
  have hc := c.toNat_le
  have hb := b.isLt
  rw [Bool.eq_iff_iff, Bool.not_eq_true', ← Bool.not_eq_true, sub8_h_iff, add8_h_iff, complement_toNat, not_toNat]
  omega

theorem sub8_c_eq_add8 (a b : Byte) (c : Bool) : (sub8 a b c).2.c = !(add8 a (~~~b) (!c)).2.c := by
  have hc := c.toNat_le
  have hb := b.isLt
  rw [Bool.eq_iff_iff, Bool.not_eq_true', ← Bool.not_eq_true, sub8_c_iff, add8_c_iff, complement_toNat, not_toNat]
  omega

theorem sub8_pv_eq_add8 (a b : Byte) (c : Bool) : (sub8 a b c).2.pv = (add8 a (~~~b) (!c)).2.pv := by
  have hb := b.isLt
  rw [Bool.eq_iff_iff, sub8_pv_iff_signs, add8_pv_iff_signs, sub8_fst_eq_add8, complement_toNat]
  omega

-- Decrement and parity (R200, R206)

theorem dec8_toNat (a : Byte) (g : Flags) : (dec8 a g).1.toNat = (a.toNat + 255) % 256 := by
  rw [Nat.add_comm]
  exact BitVec.toNat_sub a 1

theorem dec8_result_flags (a : Byte) (g : Flags) :
    let r := dec8 a g
    r.2.s = r.1.getLsbD 7 ∧ r.2.z = (r.1 == 0) ∧ r.2.f5 = r.1.getLsbD 5 ∧ r.2.f3 = r.1.getLsbD 3 :=
  ⟨rfl, rfl, rfl, rfl⟩

/-- Flipping one bit flips the parity. -/
theorem parity_flip : ∀ (v : Byte) (k : Fin 8), parity (v ^^^ ((1 : Byte) <<< k.val)) = !parity v := by decide

-- Decimal adjust (R213)

theorem daaDiff_toNat (a : Byte) (g : Flags) :
    (daaDiff a g).toNat =
      (if g.h = true ∨ 9 < a.toNat % 16 then 0x06 else 0) + (if g.c = true ∨ 0x99 < a.toNat then 0x60 else 0) := by
  change _ = (if g.h = true ∨ 9 < nibble a then 0x06 else 0) + _
  by_cases low : g.h = true ∨ 9 < nibble a <;> by_cases high : g.c = true ∨ 0x99 < a.toNat <;>
    simp [daaDiff, low, high]

/-- The result of DAA. -/
theorem daa_toNat (a : Byte) (g : Flags) :
    ((daa a g).1.toNat : Int) =
      (if g.n = true then (a.toNat : Int) - (daaDiff a g).toNat else a.toNat + (daaDiff a g).toNat) % 256 := by
  have hd := (daaDiff a g).isLt
  have ha := a.isLt
  by_cases hn : g.n = true
  · have h : (daa a g).1 = a - daaDiff a g := by simp [daa, hn]
    rw [h, if_pos hn, BitVec.toNat_sub]
    omega
  · have h : (daa a g).1 = a + daaDiff a g := by simp [daa, hn]
    rw [h, if_neg hn, BitVec.toNat_add]
    omega

theorem daa_result_flags (a : Byte) (g : Flags) :
    let r := daa a g
    r.2.s = r.1.getLsbD 7 ∧ r.2.z = (r.1 == 0) ∧ r.2.f5 = r.1.getLsbD 5 ∧ r.2.f3 = r.1.getLsbD 3 :=
  ⟨rfl, rfl, rfl, rfl⟩

/-- H of DAA: whether bit 4 has changed. -/
theorem daa_h_iff (a : Byte) (g : Flags) :
    (daa a g).2.h = true ↔ (daa a g).1.toNat / 16 % 2 ≠ a.toNat / 16 % 2 := by
  have hh : (daa a g).2.h = (a.getLsbD 4 ^^ (daa a g).1.getLsbD 4) := BitVec.getLsbD_xor
  have ha := getLsbD_iff_div_mod a 4
  have hr := getLsbD_iff_div_mod (daa a g).1 4
  rw [hh, bne_iff_ne, ne_eq, Bool.eq_iff_iff, ha, hr]
  omega

theorem daa_c_iff (a : Byte) (g : Flags) : (daa a g).2.c = true ↔ g.c = true ∨ 0x99 < a.toNat := by
  have hc : (daa a g).2.c = (g.c || decide (0x99 < a.toNat)) := rfl
  rw [hc, Bool.or_eq_true, decide_eq_true_eq]

/-- The byte that holds a number below 100 in two decimal digits. -/
def decimal (k : Nat) : Byte := BitVec.ofNat 8 (k / 10 * 16 + k % 10)

theorem decimal_toNat {k : Nat} (hk : k < 100) : (decimal k).toNat = k / 10 * 16 + k % 10 := by
  rw [decimal, BitVec.toNat_ofNat]
  omega

/-- The correction after an addition: from `t` in the high digits and `s` in the low ones to the decimal digits. -/
theorem decimal_add_correction : ∀ t < 19, ∀ s < 20,
    ((16 * t + s) % 256 + ((if 15 < s ∨ 9 < (16 * t + s) % 256 % 16 then 6 else 0) +
        if 255 < 16 * t + s ∨ 153 < (16 * t + s) % 256 then 96 else 0)) % 256 =
      (10 * t + s) % 100 / 10 * 16 + (10 * t + s) % 100 % 10 ∧
    (255 < 16 * t + s ∨ 153 < (16 * t + s) % 256 ↔ 100 ≤ 10 * t + s) := by
  decide

/-- The correction after a subtraction: from `t` − 9 in the high digits and `s` − 10 in the low ones. -/
theorem decimal_sub_correction : ∀ t < 19, ∀ s < 20,
    ((16 * t + s + 358) % 256 + 512 - ((if s < 10 ∨ 9 < (16 * t + s + 358) % 256 % 16 then 6 else 0) +
        if 16 * t + s < 154 ∨ 153 < (16 * t + s + 358) % 256 then 96 else 0)) % 256 =
      (10 * t + s) % 100 / 10 * 16 + (10 * t + s) % 100 % 10 ∧
    (16 * t + s < 154 ∨ 153 < (16 * t + s + 358) % 256 ↔ 10 * t + s < 100) := by
  decide

/-- DAA after an addition of two decimal bytes: the result in two digits. -/
theorem daa_add8_decimal {m n : Nat} (hm : m < 100) (hn : n < 100) (c : Bool) :
    let r := daa (add8 (decimal m) (decimal n) c).1 (add8 (decimal m) (decimal n) c).2
    r.1 = decimal ((m + n + c.toNat) % 100) ∧ (r.2.c = true ↔ 100 ≤ m + n + c.toNat) := by
  intro r
  have hc := c.toNat_le
  have hadd : (add8 (decimal m) (decimal n) c).2.n = false := rfl
  have hr : (r.1.toNat : Int) = _ := daa_toNat _ _
  obtain ⟨hdigits, hcarry⟩ := decimal_add_correction (m / 10 + n / 10) (by omega) (m % 10 + n % 10 + c.toNat) (by omega)
  have hsum : m / 10 * 16 + m % 10 + (n / 10 * 16 + n % 10) + c.toNat =
      16 * (m / 10 + n / 10) + (m % 10 + n % 10 + c.toNat) := by ring
  have hdec : m + n + c.toNat = 10 * (m / 10 + n / 10) + (m % 10 + n % 10 + c.toNat) := by omega
  have hlow (k : Nat) : (k / 10 * 16 + k % 10) % 16 = k % 10 := by omega
  simp only [hadd, Bool.false_eq_true, ↓reduceIte, daaDiff_toNat, add8_h_iff, add8_c_iff, add8_toNat, decimal_toNat hm,
    decimal_toNat hn, hsum, hlow] at hr
  rw [show (r.2.c = true ↔ _) from daa_c_iff _ _, add8_c_iff, add8_toNat, decimal_toNat hm, decimal_toNat hn,
    hsum, hdec]
  refine ⟨BitVec.eq_of_toNat_eq ?_, hcarry⟩
  rw [decimal_toNat (Nat.mod_lt _ (by decide)), ← hdigits]
  exact_mod_cast hr

theorem toNat_eq_of_sub_emod {r x d : Nat} (hd : d ≤ 512) (h : (r : Int) = ((x : Int) - d) % 256) :
    r = (x + 512 - d) % 256 := by
  omega

/-- The result of a subtraction of bytes below 154, without negative numbers. -/
theorem sub8_toNat_of_lt {a b : Byte} (c : Bool) (ha : a.toNat < 154) (hb : b.toNat < 154) :
    (sub8 a b c).1.toNat = (a.toNat + 154 - b.toNat - c.toNat + 358) % 256 ∧
      ((sub8 a b c).2.c = true ↔ a.toNat + 154 - b.toNat - c.toNat < 154) := by
  have hc := c.toNat_le
  have hd := sub8_toNat a b c
  rw [sub8_c_iff]
  omega

/-- DAA after a subtraction of two decimal bytes: the result in two digits. -/
theorem daa_sub8_decimal {m n : Nat} (hm : m < 100) (hn : n < 100) (c : Bool) :
    let r := daa (sub8 (decimal m) (decimal n) c).1 (sub8 (decimal m) (decimal n) c).2
    r.1 = decimal ((m + 200 - n - c.toNat) % 100) ∧ (r.2.c = true ↔ m < n + c.toNat) := by
  intro r
  have hc := c.toNat_le
  have hdiff : m / 10 * 16 + m % 10 + 154 - (n / 10 * 16 + n % 10) - c.toNat =
      16 * (m / 10 + 9 - n / 10) + (m % 10 + 10 - n % 10 - c.toNat) := by omega
  have hdec : (m + 200 - n - c.toNat) % 100 =
      (10 * (m / 10 + 9 - n / 10) + (m % 10 + 10 - n % 10 - c.toNat)) % 100 := by omega
  have hlow (k : Nat) : (k / 10 * 16 + k % 10) % 16 = k % 10 := by omega
  have hhalf : m % 10 < n % 10 + c.toNat ↔ m % 10 + 10 - n % 10 - c.toNat < 10 := by omega
  have hless : m < n + c.toNat ↔ 10 * (m / 10 + 9 - n / 10) + (m % 10 + 10 - n % 10 - c.toNat) < 100 := by omega
  have hlt {k : Nat} (hk : k < 100) : (decimal k).toNat < 154 := by rw [decimal_toNat hk]; omega
  obtain ⟨hdigits, hborrow⟩ :=
    decimal_sub_correction (m / 10 + 9 - n / 10) (by omega) (m % 10 + 10 - n % 10 - c.toNat) (by omega)
  obtain ⟨hsub, hsubC⟩ := sub8_toNat_of_lt c (hlt hm) (hlt hn)
  rw [decimal_toNat hm, decimal_toNat hn, hdiff] at hsub hsubC
  have hn1 : (sub8 (decimal m) (decimal n) c).2.n = true := rfl
  have hr : (r.1.toNat : Int) = _ := daa_toNat _ _
  simp only [hn1, ↓reduceIte, daaDiff_toNat, sub8_h_iff, hsubC, hsub, decimal_toNat hm, decimal_toNat hn, hlow, hhalf]
    at hr
  rw [show (r.2.c = true ↔ _) from daa_c_iff _ _, hsubC, hsub, hless]
  refine ⟨BitVec.eq_of_toNat_eq ?_, hborrow⟩
  rw [decimal_toNat (Nat.mod_lt _ (by decide)), hdec, ← hdigits]
  exact toNat_eq_of_sub_emod (by split_ifs <;> decide) hr

end Sys2Proof.Machine

namespace Sys2Proof.Claims
open Sys2Proof.Machine

/-- Settles O37: the bits of a result that holds the sum or the difference modulo 256. -/
theorem addAndSubtractInIntegers : Obligations.AddAndSubtractInIntegers := by
  unfold Obligations.AddAndSubtractInIntegers
  intro a b c
  have hadd : ((add8 a b c).1.toNat : Int) = ((a.toNat : Int) + b.toNat + c.toNat) % 256 := mod_cast add8_toNat a b c
  have hsub := sub8_toNat a b c
  have haddC : (add8 a b c).2.c = true ↔ 255 < (a.toNat : Int) + b.toNat + c.toNat := mod_cast add8_c_iff a b c
  obtain ⟨addS, addZ, add5, add3⟩ := add8_result_flags a b c
  obtain ⟨subS, subZ, sub5, sub3⟩ := sub8_result_flags a b c
  obtain ⟨t7, t5, t3, t0⟩ := byte_bits_of_toNat_eq hadd
  obtain ⟨d7, d5, d3, d0⟩ := byte_bits_of_toNat_eq hsub
  have haddPv := add8_pv_iff_signs a b c
  have hsubPv := sub8_pv_iff_signs a b c
  refine ⟨⟨hadd, addS ▸ t7, addZ ▸ t0, add5 ▸ t5, add8_h_iff a b c, add3 ▸ t3, ?_, rfl, haddC⟩,
    ⟨hsub, subS ▸ d7, subZ ▸ d0, sub5 ▸ d5, sub8_h_iff a b c, sub3 ▸ d3, ?_, rfl, sub8_c_iff a b c⟩⟩
  · rw [haddPv]
    omega
  · rw [hsubPv]
    omega

/-- Settles O38: result and flags agree one by one, and PV is signed overflow. -/
theorem subtractIsComplementAdd : Obligations.SubtractIsComplementAdd := by
  unfold Obligations.SubtractIsComplementAdd
  refine fun a b c => ⟨?_, add8_pv_iff a b c, sub8_pv_iff a b c⟩
  have hr := sub8_fst_eq_add8 a b c
  exact Prod.ext hr (Flags.eq_of_fields (congrArg (·.getLsbD 7) hr) (congrArg (· == 0) hr) (congrArg (·.getLsbD 5) hr)
    (sub8_h_eq_add8 a b c) (congrArg (·.getLsbD 3) hr) (sub8_pv_eq_add8 a b c) rfl (sub8_c_eq_add8 a b c))

/-- Settles O40: the selections by definition, decrement flag by flag from its result, and the parity of a flipped
bit. -/
theorem logicAndDecrementFlags : Obligations.LogicAndDecrementFlags := by
  unfold Obligations.LogicAndDecrementFlags
  refine ⟨fun a v g => ⟨rfl, rfl, rfl, rfl, rfl, fun op r h => ?_⟩, ?_, rfl, fun v k hk => parity_flip v ⟨k, hk⟩⟩
  · fin_cases h <;> rfl
  · intro a g r
    have hr : r.1.toNat = (a.toNat + 255) % 256 := dec8_toNat a g
    obtain ⟨hs, hz, h5, h3⟩ := dec8_result_flags a g
    refine ⟨hr, ?_, ?_, ?_, beq_iff_eq, ?_, beq_iff_eq.trans (BitVec.toNat_inj (y := 0x80)).symm, rfl, rfl⟩
    · rw [hs, getLsbD_seven_iff, hr]
    · rw [hz, beq_zero_iff_toNat, hr]
      omega
    · rw [h5, getLsbD_iff_div_mod, hr]
      omega
    · rw [h3, getLsbD_iff_div_mod, hr]
      omega

/-- Settles O43: DAA flag by flag from its result, and its result after decimal operands. -/
theorem daaMakesArithmeticDecimal : Obligations.DaaMakesArithmeticDecimal := by
  unfold Obligations.DaaMakesArithmeticDecimal
  refine ⟨?_, fun m n c => ?_⟩
  · intro a g low high r out
    have hr : (out.1.toNat : Int) = r := by
      have h : (out.1.toNat : Int) = _ := daa_toNat a g
      rw [h, daaDiff_toNat]
      push_cast
      rfl
    obtain ⟨hs, hz, h5, h3⟩ := daa_result_flags a g
    have hmod : (out.1.toNat : Int) = r % 256 := by have := out.1.isLt; omega
    obtain ⟨r7, r5, r3, r0⟩ := byte_bits_of_toNat_eq hmod
    have hh : out.2.h = true ↔ out.1.toNat / 16 % 2 ≠ a.toNat / 16 % 2 := daa_h_iff a g
    rw [← hmod, hr] at r7 r0
    refine ⟨hr, hs ▸ r7, hz ▸ r0, h5 ▸ r5, ?_, h3 ▸ r3, rfl, rfl, daa_c_iff a g⟩
    rw [hh]
    omega
  · obtain ⟨hadd, haddC⟩ := daa_add8_decimal m.isLt n.isLt c
    obtain ⟨hsub, hsubC⟩ := daa_sub8_decimal m.isLt n.isLt c
    exact ⟨hadd, haddC, hsub, hsubC⟩

/-- Settles O44, for each of the 256 bytes and both carries. -/
theorem rotatesInNumbers : Obligations.RotatesInNumbers := by
  unfold Obligations.RotatesInNumbers
  decide

end Sys2Proof.Claims
end

section
/-! The register file and memory (spec/10_state.md R32, R34; spec/20_memory.md R72, R73, R82). -/

namespace Sys2Proof.Machine

theorem Cpu.rp_setRp_other (u : Cpu) {p q : Rp} (v : Word) (h : q ≠ p) : (u.setRp p v).rp q = u.rp q := by
  cases p <;> cases q <;> simp_all [Cpu.setRp, Cpu.rp, Cpu.setBc, Cpu.setDe, Cpu.setHl, Cpu.bc, Cpu.de, Cpu.hl]

theorem Cpu.rp2_setRp2_other (u : Cpu) {p q : Rp2} (v : Word) (h : q ≠ p) : (u.setRp2 p v).rp2 q = u.rp2 q := by
  cases p <;> cases q <;>
    simp_all [Cpu.setRp2, Cpu.rp2, Cpu.setBc, Cpu.setDe, Cpu.setHl, Cpu.setAf, Cpu.bc, Cpu.de, Cpu.hl, Cpu.af]

/-- On plain memory a word stored is read back. -/
theorem memRead16_memWrite16_plain {s : State} (h : s.memHost = []) (a v : Word) :
    ((s.memWrite16 a v).memRead16 a).1 = v := by
  have hplain : (s.memWrite16 a v).memHost = [] := by simp [State.memWrite16, h]
  have hne : a + 1 ≠ a := by bv_omega
  have hlo : (s.memWrite16 a v).answerAt a = loByte v := by
    rw [State.answerAt_plain _ hplain, byteAt_memWrite16_plain s h, if_neg hne, if_pos rfl]
  have hhi : ((s.memWrite16 a v).memRead a).2.answerAt (a + 1) = hiByte v := by
    rw [State.answerAt_plain _ (by simp [hplain]), byteAt_memRead, State.nextReaction_plain _ hplain]
    exact (byteAt_memWrite16_plain s h a (a + 1) v).trans (if_pos rfl)
  rw [State.memRead16_fst, hlo, hhi, wordOf_hiByte_loByte]

end Sys2Proof.Machine

namespace Sys2Proof.Claims
open Sys2Proof.Machine

/-- Settles O5: a read of what was written, and of another register or pair. -/
theorem registerFile : Obligations.RegisterFile := by
  unfold Obligations.RegisterFile
  refine ⟨fun u r q v => ⟨?_, Cpu.setR8_f u r v⟩,
    fun u => ⟨wordOf_toNat _ _, wordOf_toNat _ _, wordOf_toNat _ _, wordOf_toNat _ _⟩,
    fun u p q v => ?_, fun u p q v => ?_, fun u x y v => ?_⟩
  · by_cases h : q = r
    · rw [if_pos h, h, Cpu.r8_setR8_same]
    · rw [if_neg h, Cpu.r8_setR8_other u v h]
  · by_cases h : q = p
    · rw [if_pos h, h, Cpu.rp_setRp_same]
    · rw [if_neg h, Cpu.rp_setRp_other u v h]
  · by_cases h : q = p
    · rw [if_pos h, h, Cpu.rp2_setRp2_same]
    · rw [if_neg h, Cpu.rp2_setRp2_other u v h]
  · by_cases h : y = x
    · rw [if_pos h, h, Cpu.xy_setXy_same]
    · rw [if_neg h, Cpu.xy_setXy_other u v h]

/-- Settles O6: how the host serves an access, and plain memory. -/
theorem memoryReadsAsWritten : Obligations.MemoryReadsAsWritten := by
  unfold Obligations.MemoryReadsAsWritten
  refine ⟨fun s a b v => ⟨rfl, byteAt_memRead s a b, rfl, byteAt_memWrite s a b v, rfl⟩,
    fun s h => ⟨fun a b v => ?_, fun a b v => ?_, fun a v => memRead16_memWrite16_plain h a v⟩⟩
  · simp only [byteAt_memWrite_plain s h, eq_comm]
  · simp only [byteAt_memWrite16_plain s h, eq_comm]

end Sys2Proof.Claims
end

section
/-! Fetches in the terms of the statements: what the host answers to them, the instruction they spell, and the loop over
prefixes (spec/30_encoding.md R110, R112 to R114, R121). -/

namespace Sys2Proof.Claims
open Sys2Proof.Machine

-- Fetches and the host's answers

theorem incR_eq_refreshed : ∀ r : Byte, incR r = refreshed r 1 := by decide

theorem fetchOp_snd (s : State) : s.fetchOp.2 = fetches true 1 s := by
  simp only [fetches, if_true, ← incR_eq_refreshed]
  rfl

theorem fetches_add (opcode : Bool) (n m : Nat) (s : State) :
    fetches opcode (n + m) s = fetches opcode m (fetches opcode n s) := by
  induction n generalizing s with
  | zero => rw [Nat.zero_add]; rfl
  | succ n ih => rw [Nat.succ_add]; exact ih _

theorem fetchBytes_eq (n : Nat) (s : State) : s.fetchBytes n = (answers n s, fetches false n s) := by
  induction n generalizing s with
  | zero => rfl
  | succ n ih => rw [State.fetchBytes_succ, ih]; rfl

theorem answers_length (n : Nat) (s : State) : (answers n s).length = n := by
  induction n generalizing s with
  | zero => rfl
  | succ n ih => exact congrArg (· + 1) (ih _)

theorem answers_add (n m : Nat) (s : State) : answers (n + m) s = answers n s ++ answers m (fetches false n s) := by
  induction n generalizing s with
  | zero => rw [Nat.zero_add]; rfl
  | succ n ih => rw [Nat.succ_add]; exact congrArg (_ :: ·) (ih _)

/-- Fetches are answered from memory, the host's reactions and PC. -/
theorem answers_congr {s t : State} (hpc : t.cpu.pc = s.cpu.pc) (hm : t.mem = s.mem) (hh : t.memHost = s.memHost)
    (n : Nat) : answers n t = answers n s := by
  induction n generalizing s t with
  | zero => rfl
  | succ n ih =>
    have hs (a : Word) : answer t a = answer s a := State.answerAt_congr hm hh a
    have hr : reaction t = reaction s := congrArg (·.headD {}) hh
    rw [answers, answers, hpc, hs]
    refine congrArg (_ :: ·) (ih (s := fetches false 1 s) (t := fetches false 1 t) ?_ ?_ ?_)
    · exact congrArg (· + 1) hpc
    · simp only [fetches, afterRead, hr, hm]
    · exact congrArg List.tail hh

theorem fetches_pending (opcode : Bool) (n : Nat) (s : State) : (fetches opcode n s).pending = s.pending := by
  induction n generalizing s with
  | zero => rfl
  | succ n ih => exact ih _

theorem fetched_pending (op : Byte) (ops more : Nat) (s : State) : (fetched op ops more s).pending = s.pending := by
  unfold fetched
  split <;> rw [fetches_pending, fetches_pending]

theorem fetched_after_prefixes (op : Byte) (ops more : Nat) (s : State) :
    fetched op ops more s = fetched op 0 more (fetches true ops s) := by
  simp only [fetched, fetches_add true ops 1]
  rfl

/-- The state with what a fallback leaves: the cycles and the prefixes so far, and nothing pending. -/
def fallenBack (s : State) (delta : Nat) (chain : List Byte) : State :=
  { s with delta := delta, chain := chain, pending := none }

theorem fetches_fallenBack (opcode : Bool) (n : Nat) (s : State) (d : Nat) (c : List Byte) :
    fetches opcode n (fallenBack s d c) = fallenBack (fetches opcode n s) d c := by
  induction n generalizing s with
  | zero => rfl
  | succ n ih => exact ih (fetches opcode 1 s)

theorem answers_fetches_opcode (n : Nat) (s : State) : answers n (fetches true 1 s) = answers n (fetches false 1 s) :=
  answers_congr (s := fetches false 1 s) (t := fetches true 1 s) rfl rfl rfl n

theorem answers_fallenBack (n : Nat) (s : State) (d : Nat) (c : List Byte) :
    answers n (fallenBack s d c) = answers n s :=
  answers_congr (s := s) (t := fallenBack s d c) rfl rfl rfl n

theorem fetched_fallenBack (op : Byte) (more : Nat) (s : State) (d : Nat) (c : List Byte) :
    fetched op 0 more (fallenBack s d c) = fallenBack (fetched op 0 more s) d c := by
  simp only [fetched, fetches_fallenBack]
  split <;> rfl

-- The instruction the answers spell

/-- A byte sequence that decodes to one instruction, read at the instruction's places. -/
theorem decodeBytes_of_decode {op : Byte} {bs : List Byte} {i : Instr} (h : decode (op :: bs) = .ok (i, [])) :
    decodeBytes op (bs.getD 0 0) (bs.getD 1 0) (bs.getD 2 0) = (i, bs.length + 1) := by
  unfold decode at h
  simp only [List.length_cons] at h
  split at h
  case isTrue hle =>
    obtain ⟨hi, hd⟩ := Prod.mk.inj (Except.ok.inj h)
    have hge := List.drop_eq_nil_iff.mp hd
    exact Prod.ext hi (Nat.le_antisymm hle hge)
  case isFalse => exact nomatch h

theorem eq_take_getD {bs : List Byte} (h : bs.length ≤ 3) :
    bs = [bs.getD 0 0, bs.getD 1 0, bs.getD 2 0].take bs.length := by
  match bs, h with
  | [], _ | [_], _ | [_, _], _ | [_, _, _], _ => rfl
  | _ :: _ :: _ :: _ :: _, h => simp only [List.length_cons] at h; omega

/-- A fetch whose bytes spell an instruction gives it. -/
theorem fetchInstr_of_decode {op : Byte} {bs : List Byte} {i : Instr} {s : State}
    (h : decode (op :: bs) = .ok (i, [])) (ha : answers bs.length s = bs) :
    s.fetchInstr op = (i, fetched op 0 bs.length s) := by
  have hd := decodeBytes_of_decode h
  have hn : (decodeBytes op (bs.getD 0 0) (bs.getD 1 0) (bs.getD 2 0)).2 = bs.length + 1 := by rw [hd]
  cases hp : isPrefix op
  · obtain ⟨-, -, -, hle, -⟩ := decodeBytes_unprefixed hp (bs.getD 0 0) (bs.getD 1 0) (bs.getD 2 0) 0 0 0
    have hb := eq_take_getD (bs := bs) (by omega)
    rw [State.fetchInstr_unprefixed hp hd (by rw [fetchBytes_eq, Nat.add_sub_cancel, ha]; exact hb), fetchBytes_eq]
    simp [fetched, hp, fetches]
  · obtain ⟨-, ⟨hge, hle⟩, -⟩ := decodeBytes_prefixed hp (bs.getD 0 0) (bs.getD 1 0) (bs.getD 2 0) 0 0
    match bs, ha with
    | [], _ => exact absurd hge (by rw [hn]; decide)
    | b :: later, ha =>
      obtain ⟨h1, h2⟩ := List.cons.inj ha
      have hop : answers later.length (fetches true 1 s) = later :=
        (answers_fetches_opcode _ s).trans h2
      have hb : later = [(b :: later).getD 1 0, (b :: later).getD 2 0].take later.length := by
        have := eq_take_getD (bs := b :: later) (by omega)
        exact (List.cons.inj this).2
      rw [State.fetchInstr_prefixed hp hd h1 (by rw [fetchOp_snd, fetchBytes_eq]; exact hop.trans hb), fetchOp_snd,
        fetchBytes_eq]
      simp [fetched, hp]

-- The loop over prefixes

/-- A byte that is one of the prefixes DD and FD. -/
def IsXyPrefix (b : Byte) : Prop := b = 0xDD ∨ b = 0xFD

theorem isXyPrefix_iff {b : Byte} : IsXyPrefix b ↔ ∃ x : Xy, b = x.prefixByte :=
  ⟨fun h => h.elim (fun e => ⟨.ix, e⟩) fun e => ⟨.iy, e⟩, fun ⟨x, e⟩ => by cases x; exacts [.inl e, .inr e]⟩

theorem isPrefix_prefixByte (x : Xy) : isPrefix x.prefixByte = true := by cases x <;> rfl

theorem prefixByte_mem_fallbackOpcodes (x : Xy) : x.prefixByte ∈ fallbackOpcodes := by cases x <;> decide

/-- DD or FD before a byte without an indexed form is fetched as the fallback row. -/
theorem fetchInstr_fallback (x : Xy) {s : State} (h : answer s s.cpu.pc ∈ fallbackOpcodes) :
    s.fetchInstr x.prefixByte = (.xyFallback x (answer s s.cpu.pc), fetches true 1 s) := by
  rw [State.fetchInstr_prefixed (b2 := 0) (b3 := 0) (isPrefix_prefixByte x) (decodeBytes_of_fallback h x 0 0) rfl rfl]
  exact congrArg _ (fetchOp_snd s)

/-- A fetch gives the fallback row in that case alone. -/
theorem isFallback_fetchInstr_iff (op : Byte) (s : State) :
    isFallback (s.fetchInstr op).1 = true ↔ IsXyPrefix op ∧ answer s s.cpu.pc ∈ fallbackOpcodes := by
  unfold State.fetchInstr
  cases hp : isPrefix op
  · have hn : ¬ IsXyPrefix op := by
      rintro (rfl | rfl) <;> exact absurd hp (by decide)
    simp only [Bool.false_eq_true, if_false, isFallback_decodeBytes_iff]
    exact ⟨fun h => absurd h.1 hn, fun h => absurd h.1 hn⟩
  · exact isFallback_decodeBytes_iff _ _ _ _

/-- The loop passes over a DD or FD that falls back, at 4 cycles. -/
theorem execPrimary_fallback (fuel : Nat) (x : Xy) {s : State} (h : answer s s.cpu.pc ∈ fallbackOpcodes) :
    execPrimary (fuel + 1) x.prefixByte s =
      execPrimary fuel (answer s s.cpu.pc)
        (fallenBack (fetches true 1 s) (s.delta + 4) (s.chain ++ [x.prefixByte])) := by
  rw [execPrimary, fetchInstr_fallback x h]
  rfl

/-- An instruction other than the fallback row leaves no opcode pending. -/
theorem exec_pending {i : Instr} {s t : State} (hi : isFallback i = false) (hp : s.pending = none)
    (h : exec i s = .next t) : t.pending = none := by
  obtain ⟨op, -, rfl⟩ | ⟨x, op, rfl, -⟩ | ⟨-, -, t', ht', -, -, hh⟩ := exec_next_cases h
  · exact hp
  · exact nomatch hi
  · cases h.symm.trans ht'
    obtain ⟨-, -, -, -, -, -, -, hpend⟩ := hh
    exact hpend.trans hp

theorem fetchInstr_pending {op : Byte} {s : State} : (s.fetchInstr op).2.pending = s.pending := by
  obtain ⟨-, -, ⟨-, -, -, -, -, -, -, hp⟩, -⟩ := State.fetchInstr_keeps s op
  exact hp

/-- The loop ends with an instruction other than the fallback row. -/
theorem execPrimary_instr (fuel : Nat) {op : Byte} {s : State} (hi : isFallback (s.fetchInstr op).1 = false)
    (hp : s.pending = none) :
    execPrimary (fuel + 1) op s = exec (s.fetchInstr op).1 (s.fetchInstr op).2 := by
  obtain ⟨t, ht⟩ := exec_next (s.fetchInstr op).1 (s.fetchInstr op).2
  have hpend := exec_pending hi (fetchInstr_pending.trans hp) ht
  simp only [execPrimary, ht, hpend]

/-- The loop over a chain of prefixes ends with the instruction behind it. -/
theorem execPrimary_chain {op : Byte} {more : List Byte} {i : Instr} (hop : op ∈ fallbackOpcodes)
    (hd : decode (op :: more) = .ok (i, [])) (hi : isFallback i = false) (fuel : Nat) (xs : List Xy) (x : Xy)
    (s : State)
    (ha : answers (xs.length + 1 + more.length) s = xs.map Xy.prefixByte ++ op :: more) :
    execPrimary (xs.length + 1 + (fuel + 1)) x.prefixByte s =
      exec i (fallenBack (fetched op (xs.length + 1) more.length s) (s.delta + 4 * (xs.length + 1))
        (s.chain ++ (x :: xs).map Xy.prefixByte)) := by
  have hfuel (n : Nat) : n + 1 + (fuel + 1) = n + (fuel + 1) + 1 := by omega
  induction xs generalizing x s with
  | nil =>
    have hcons : answers (1 + more.length) s = op :: more := by simpa using ha
    rw [Nat.add_comm] at hcons
    obtain ⟨h1, h2⟩ := List.cons.inj hcons
    have hu (d : Nat) (c : List Byte) : answers more.length (fallenBack (fetches true 1 s) d c) = more := by
      rwa [answers_fallenBack, answers_fetches_opcode]
    have hf := fetchInstr_of_decode hd (hu (s.delta + 4) (s.chain ++ [x.prefixByte]))
    rw [List.length_nil, hfuel, execPrimary_fallback _ x (h1.symm ▸ hop), h1, Nat.zero_add,
      execPrimary_instr fuel (by rw [hf]; exact hi) rfl, hf, fetched_after_prefixes op (0 + 1), fetched_fallenBack]
    rfl
  | cons y ys ih =>
    have hcons : answers (ys.length + 1 + more.length + 1) s =
        y.prefixByte :: (ys.map Xy.prefixByte ++ op :: more) := by
      rw [← List.cons_append, ← List.map_cons, ← ha]
      congr 1
      simp only [List.length_cons]
      omega
    obtain ⟨h1, h2⟩ := List.cons.inj hcons
    have hu (d : Nat) (c : List Byte) :
        answers (ys.length + 1 + more.length) (fallenBack (fetches true 1 s) d c) =
          ys.map Xy.prefixByte ++ op :: more := by
      rwa [answers_fallenBack, answers_fetches_opcode]
    rw [List.length_cons, hfuel, execPrimary_fallback _ x (h1.symm ▸ prefixByte_mem_fallbackOpcodes y), h1,
      ih y _ (hu _ _), fetched_after_prefixes op (ys.length + 1), fetches_fallenBack, fetched_fallenBack,
      fetched_after_prefixes op (ys.length + 1 + 1), Nat.add_comm (ys.length + 1) 1, fetches_add true 1]
    simp only [fallenBack, List.map_cons, List.append_assoc, List.singleton_append]
    congr 2
    omega

-- Endless chains

theorem fallback_of_execPrimary_hang {n : Nat} {op : Byte} {s : State} (hp : s.pending = none)
    (h : execPrimary (n + 1) op s = .fault .hang) : IsXyPrefix op ∧ answer s s.cpu.pc ∈ fallbackOpcodes := by
  rw [← isFallback_fetchInstr_iff]
  by_contra hi
  rw [execPrimary_instr n (by simpa using hi) hp] at h
  obtain ⟨t, ht⟩ := exec_next (s.fetchInstr op).1 (s.fetchInstr op).2
  exact nomatch ht.symm.trans h

/-- A loop that runs out of fuel has met prefixes alone. -/
theorem isXyPrefix_of_execPrimary_hang (n : Nat) (op : Byte) (s : State) (hp : s.pending = none)
    (h : execPrimary (n + 1) op s = .fault .hang) : ∀ b ∈ op :: answers n s, IsXyPrefix b := by
  induction n generalizing op s with
  | zero => simpa [answers] using (fallback_of_execPrimary_hang hp h).1
  | succ n ih =>
    obtain ⟨hx, hmem⟩ := fallback_of_execPrimary_hang hp h
    obtain ⟨x, rfl⟩ := isXyPrefix_iff.mp hx
    rw [execPrimary_fallback _ x hmem] at h
    have hlater := ih _ (fallenBack _ _ _) rfl h
    rw [answers_fallenBack, answers_fetches_opcode] at hlater
    exact List.forall_mem_cons.mpr ⟨hx, hlater⟩

theorem execPrimary_hang_of_isXyPrefix (n : Nat) (op : Byte) (s : State)
    (h : ∀ b ∈ op :: answers n s, IsXyPrefix b) : execPrimary n op s = .fault .hang := by
  induction n generalizing op s with
  | zero => rfl
  | succ n ih =>
    obtain ⟨hop, hlater⟩ := List.forall_mem_cons.mp h
    obtain ⟨x, rfl⟩ := isXyPrefix_iff.mp hop
    obtain ⟨y, hy⟩ := isXyPrefix_iff.mp (hlater _ List.mem_cons_self)
    have hmem : answer s s.cpu.pc ∈ fallbackOpcodes := hy ▸ prefixByte_mem_fallbackOpcodes y
    rw [execPrimary_fallback n x hmem]
    refine ih _ _ ?_
    rw [answers_fallenBack, answers_fetches_opcode]
    exact hlater

end Sys2Proof.Claims
end

section
/-! The step operation: a dispatched instruction, a chain of prefixes, an endless one, a halted and a handled step
(spec/30_encoding.md R112, R121, R125, R126). -/

namespace Sys2Proof.Claims
open Sys2Proof.Machine

-- A call that no mark answers

theorem step_of_stepNext {s : State} {rest : List HostCall} (h : StepNext s rest) :
    step s = stepCall { s with calls := rest } := by
  rcases h with h | ⟨h, rfl⟩
  · exact step_of_calls_cons h
  · rw [show ({ s with calls := [] } : State) = s by rw [← h]]
    simp only [step, serve, h]

theorem unlessMarked_of_none {s : State} (hf : s.faultMark = none) (hr : s.refusedMark = none) (call : State → Res) :
    unlessMarked s call = call s := by
  simp only [unlessMarked, hf, hr]

theorem step_unmarked {s : State} {rest : List HostCall} (h : StepNext s rest) (hf : s.faultMark = none)
    (hr : s.refusedMark = none) :
    step s =
      if s.cpu.halted then .next (endStep (haltedNop (fresh s rest)))
      else andThen (dispatchStep (fresh s rest)) endStep := by
  rw [step_of_stepNext h, stepCall, unlessMarked_of_none (s := { s with calls := rest }) hf hr]
  rfl

theorem thenEnd_eq_andThen (r : Res) : thenEnd r ended = andThen r endStep := by
  cases r with
  | next t => exact congrArg Host.Outcome.next (endStep_eq_ended t).symm
  | fault _ | refused _ => rfl

/-- The hook passes: the state before PC and R advance. -/
theorem consulted_of_passes {s : State} {rest : List HostCall} {act : HostAction} {hook : Option (List HookAnswer)}
    {asked : List BusAccess} (h : HookPasses s act hook asked) :
    (consulted (fresh s rest)).1 = false ∧
      (consulted (fresh s rest)).2.pastOpcode = begun s rest act hook asked := by
  have hb : begun s rest act hook asked = State.pastOpcode
      { afterRead (fresh s rest) s.cpu.pc with
        cpu := act.cpu.getD s.cpu
        mem := storesMade act.stores (afterRead (fresh s rest) s.cpu.pc).mem
        bus := asked ++ (afterRead (fresh s rest) s.cpu.pc).bus
        hook := hook } := by
    simp only [begun, ← incR_eq_refreshed]
    rfl
  rw [hb]
  rcases h with ⟨hk, rfl, rfl, rfl⟩ | ⟨hk, rfl, rfl, rfl⟩ | ⟨later, hk, rfl, rfl⟩
  · rw [consulted_of_none (b := fresh s rest) hk, ← hk]
    exact ⟨rfl, rfl⟩
  · rw [consulted_of_nil (b := fresh s rest) hk, ← hk]
    exact ⟨rfl, rfl⟩
  · rw [consulted_of_cons (b := fresh s rest) hk]
    exact ⟨rfl, rfl⟩

/-- A dispatched step is the loop from its first byte, then the step's end. -/
theorem step_dispatches {s : State} {rest : List HostCall} {act : HostAction} {hook : Option (List HookAnswer)}
    {asked : List BusAccess} (h : Dispatches s rest act hook asked) :
    step s =
      andThen (execPrimary (chainBound (begun s rest act hook asked)) (answer s s.cpu.pc) (begun s rest act hook asked))
        endStep := by
  obtain ⟨hn, hf, hr, hh, hk⟩ := h
  obtain ⟨hc, hb⟩ := consulted_of_passes (rest := rest) hk
  rw [step_unmarked hn hf hr, hh, if_neg Bool.false_ne_true, dispatchStep_eq, hc, if_neg Bool.false_ne_true, hb, ← hb]
  rfl

theorem chainBound_eq (s : State) : chainBound s = 65536 + s.memHost.length + 1 := by
  rw [chainBound, maxPrefixes]
  omega

/-- Settles O45: the loop ends at once with the instruction the answers spell. -/
theorem stepRunsDecodedInstruction : Obligations.StepRunsDecodedInstruction := by
  unfold Obligations.StepRunsDecodedInstruction
  intro s rest act hook asked i h op first hd hi
  have hlen : (answers (i.length - 1) first).length = i.length - 1 := answers_length _ _
  have hf := fetchInstr_of_decode (s := first) hd (by rw [hlen])
  rw [hlen] at hf
  rw [step_dispatches h, thenEnd_eq_andThen, chainBound_eq]
  exact congrArg (andThen · endStep) ((execPrimary_instr _ (by rw [hf]; exact hi) rfl).trans (by rw [hf]))

-- Plain memory, and chains without end

theorem byteAt_fetches_plain {s : State} (h : s.memHost = []) (a : Word) :
    (fetches false 1 s).byteAt a = s.byteAt a ∧ (fetches false 1 s).memHost = [] := by
  have hr : reaction s = {} := congrArg (·.headD {}) h
  simp [fetches, afterRead, hr, h, State.byteAt, storesMade]

theorem answer_plain {s : State} (h : s.memHost = []) (a : Word) : answer s a = s.byteAt a :=
  State.answerAt_plain s h a

/-- On plain memory fetches are answered the bytes from PC on. -/
theorem mem_answers_plain {s : State} (h : s.memHost = []) (n : Nat) (b : Byte) :
    b ∈ answers n s ↔ ∃ k < n, b = s.byteAt (s.cpu.pc + BitVec.ofNat 16 k) := by
  induction n generalizing s with
  | zero => simp [answers]
  | succ n ih =>
    have hbyte := fun a => (byteAt_fetches_plain h a).1
    have hpc : (fetches false 1 s).cpu.pc = s.cpu.pc + 1 := rfl
    rw [answers, List.mem_cons, ih (byteAt_fetches_plain h 0).2, answer_plain h]
    simp only [hbyte, hpc, State.add_one_add]
    constructor
    · rintro (rfl | ⟨k, hk, rfl⟩)
      · exact ⟨0, Nat.succ_pos n, by simp⟩
      · exact ⟨k + 1, Nat.succ_lt_succ hk, rfl⟩
    · rintro ⟨k, hk, rfl⟩
      cases k with
      | zero => exact .inl (by simp)
      | succ k => exact .inr ⟨k, Nat.lt_of_succ_lt_succ hk, rfl⟩

/-- 65,536 fetches from plain memory read all of it. -/
theorem forall_answers_plain_iff {s : State} (h : s.memHost = []) {P : Byte → Prop} {n : Nat} (hn : 65536 ≤ n) :
    (∀ b ∈ answers n s, P b) ↔ ∀ a : Word, P (s.byteAt a) := by
  constructor
  · intro hP a
    refine hP _ ((mem_answers_plain h n _).mpr ⟨(a - s.cpu.pc).toNat, by omega, ?_⟩)
    rw [BitVec.ofNat_toNat, BitVec.setWidth_eq, add_sub_cancel]
  · intro hP b hb
    obtain ⟨k, -, rfl⟩ := (mem_answers_plain h n b).mp hb
    exact hP _

theorem fetches_memHost (n : Nat) (s : State) : (fetches false n s).memHost = s.memHost.drop n := by
  induction n generalizing s with
  | zero => rfl
  | succ n ih => exact (ih _).trans (by simp [afterRead])

/-- What holds of as many answers as the host has prepared and of 65,536 more holds of all that follow (R121). -/
theorem forall_answers {s : State} {P : Byte → Prop} (h : ∀ b ∈ answers (65536 + s.memHost.length) s, P b) (n : Nat) :
    ∀ b ∈ answers n s, P b := by
  have hplain : (fetches false s.memHost.length s).memHost = [] := by rw [fetches_memHost, List.drop_length]
  rw [Nat.add_comm, answers_add] at h
  obtain ⟨hscripted, hall⟩ := List.forall_mem_append.mp h
  rw [forall_answers_plain_iff hplain le_rfl] at hall
  rcases Nat.le_total n s.memHost.length with hn | hn
  · obtain ⟨m, hm⟩ := Nat.exists_eq_add_of_le hn
    rw [hm, answers_add] at hscripted
    exact (List.forall_mem_append.mp hscripted).1
  · obtain ⟨m, rfl⟩ := Nat.exists_eq_add_of_le hn
    rw [answers_add]
    refine List.forall_mem_append.mpr ⟨hscripted, fun b hb => ?_⟩
    obtain ⟨k, -, rfl⟩ := (mem_answers_plain hplain m b).mp hb
    exact hall _

/-- The loop of a step hangs exactly when all its answers, without end, are prefixes. -/
theorem execPrimary_hang_iff {op : Byte} {s : State} (hp : s.pending = none) :
    execPrimary (chainBound s) op s = .fault .hang ↔ ∀ n, ∀ b ∈ op :: answers n s, IsXyPrefix b := by
  have hbound := chainBound_eq s
  constructor
  · intro h n
    rw [hbound] at h
    obtain ⟨hop, hlater⟩ := List.forall_mem_cons.mp (isXyPrefix_of_execPrimary_hang _ op s hp h)
    exact List.forall_mem_cons.mpr ⟨hop, forall_answers hlater n⟩
  · exact fun h => execPrimary_hang_of_isXyPrefix _ op s (h _)

theorem andThen_eq_fault_iff {r : Res} {k : State → State} {e : Fault} : andThen r k = .fault e ↔ r = .fault e := by
  cases r <;> simp [andThen]

/-- Settles O47, by the bound of the loop: what the host has prepared, and all of plain memory. -/
theorem hangsExactlyOnEndlessPrefixes : Obligations.HangsExactlyOnEndlessPrefixes := by
  unfold Obligations.HangsExactlyOnEndlessPrefixes
  intro s rest act hook asked h
  have hiff : step s = .fault .hang ↔
      ∀ n, ∀ b ∈ answer s s.cpu.pc :: answers n (begun s rest act hook asked), IsXyPrefix b := by
    rw [step_dispatches h, andThen_eq_fault_iff, execPrimary_hang_iff rfl]
  refine ⟨hiff, fun hm hk => hiff.trans ?_⟩
  obtain ⟨-, -, -, -, ⟨-, rfl, rfl, rfl⟩ | ⟨hk', -⟩ | ⟨_, hk', -⟩⟩ := h
  · have hbyte (a : Word) : (begun s rest {} none []).byteAt a = s.byteAt a := (byteAt_fetches_plain hm a).1
    have hplain : (begun s rest {} none []).memHost = [] := (byteAt_fetches_plain hm 0).2
    constructor
    · intro hall a
      have hlater := (List.forall_mem_cons.mp (hall 65536)).2
      rw [forall_answers_plain_iff hplain le_rfl] at hlater
      exact hbyte a ▸ hlater a
    · intro hall n
      refine List.forall_mem_cons.mpr ⟨answer_plain hm s.cpu.pc ▸ hall _, fun b hb => ?_⟩
      obtain ⟨k, -, rfl⟩ := (mem_answers_plain hplain n b).mp hb
      exact (hbyte _).symm ▸ hall _
  · exact absurd (hk.symm.trans hk') nofun
  · exact absurd (hk.symm.trans hk') nofun

/-- A chain of prefixes before an instruction other than the fallback row fits into the loop's bound. -/
theorem chain_lt_chainBound {op : Byte} {more : List Byte} {i : Instr} {s : State} (xs : List Xy)
    (hd : decode (op :: more) = .ok (i, [])) (hi : isFallback i = false)
    (ha : answers (xs.length + 1 + more.length) s = xs.map Xy.prefixByte ++ op :: more) :
    xs.length + 2 ≤ chainBound s := by
  by_contra hlt
  have hbound := chainBound_eq s
  obtain ⟨m, hm⟩ := Nat.exists_eq_add_of_le (show 65536 + s.memHost.length ≤ xs.length by omega)
  have hxs : answers xs.length s = xs.map Xy.prefixByte := by
    rw [Nat.add_assoc, answers_add] at ha
    exact (List.append_inj ha (by rw [answers_length, List.length_map])).1
  have hall : ∀ b ∈ op :: more, IsXyPrefix b := by
    have hfirst : ∀ b ∈ answers (65536 + s.memHost.length) s, IsXyPrefix b := by
      intro b hb
      have hmem : b ∈ answers xs.length s := by
        rw [hm, answers_add]
        exact List.mem_append_left _ hb
      rw [hxs] at hmem
      obtain ⟨x, -, rfl⟩ := List.mem_map.mp hmem
      exact isXyPrefix_iff.mpr ⟨x, rfl⟩
    have := forall_answers hfirst (xs.length + 1 + more.length)
    rw [ha] at this
    exact (List.forall_mem_append.mp this).2
  obtain ⟨hop, hmore⟩ := List.forall_mem_cons.mp hall
  obtain ⟨x, rfl⟩ := isXyPrefix_iff.mp hop
  have hdec := decodeBytes_of_decode hd
  match more, hmore with
  | [], _ =>
    obtain ⟨-, ⟨hge, -⟩, -⟩ := decodeBytes_prefixed (isPrefix_prefixByte x) 0 0 0 0 0
    rw [show decodeBytes x.prefixByte 0 0 0 = (i, 1) from hdec] at hge
    exact absurd (show 2 ≤ 1 from hge) (by decide)
  | b :: later, hmore =>
    obtain ⟨y, rfl⟩ := isXyPrefix_iff.mp (hmore b List.mem_cons_self)
    have hfall := decodeBytes_of_fallback (prefixByte_mem_fallbackOpcodes y) x ((y.prefixByte :: later).getD 1 0)
      ((y.prefixByte :: later).getD 2 0)
    have := hfall.symm.trans hdec
    rw [← (Prod.mk.inj this).1] at hi
    exact nomatch hi

/-- Settles O46: the loop passes over the prefixes, which its bound allows, and ends with the instruction behind
them. -/
theorem fallbackRunsUnprefixed : Obligations.FallbackRunsUnprefixed := by
  unfold Obligations.FallbackRunsUnprefixed
  refine ⟨fun x op s => rfl, ?_⟩
  intro s rest act hook asked prefixes op more i h hne hop hd hi first ha
  obtain ⟨x, xs, rfl⟩ := List.exists_cons_of_ne_nil hne
  obtain ⟨h1, h2⟩ := List.cons.inj ha
  obtain ⟨fuel, hfuel⟩ := Nat.exists_eq_add_of_le (chain_lt_chainBound xs hd hi h2)
  have hbound : chainBound first = xs.length + 1 + (fuel + 1) := by rw [hfuel]; omega
  rw [step_dispatches h, thenEnd_eq_andThen, h1]
  refine congrArg (andThen · endStep) ?_
  rw [hbound, execPrimary_chain hop hd hi fuel xs x first h2]
  have hpend : (fetched op (xs.length + 1) more.length first).pending = none := fetched_pending _ _ _ _
  have hsame : fallenBack (fetched op (xs.length + 1) more.length first) (first.delta + 4 * (xs.length + 1))
      (first.chain ++ (x :: xs).map Xy.prefixByte) =
      { fetched op (xs.length + 1) more.length first with
        delta := 4 * (xs.length + 1), chain := (x :: xs).map Xy.prefixByte } := by
    rw [fallenBack, ← hpend]
    simp [first, begun, afterRead, fresh]
  rw [hsame]
  rfl

-- Halted and handled steps

/-- The countdown reads and writes the EI delay and the flip-flops alone. -/
theorem counted_r (u : Cpu) (r : Byte) : counted { u with r := r } = { counted u with r := r } := by
  match h : u.eiDelay with
  | 0 | 1 | 2 => simp [counted, h]

theorem ended_of_none {t : State} (h : t.faultMark = none) :
    ended t = { t with cpu := { counted t.cpu with cycles := t.cpu.cycles + t.delta } } := by
  simp only [ended, h]

/-- Settles O48: R and 4 cycles, then the countdown. -/
theorem haltedStep : Obligations.HaltedStep := by
  unfold Obligations.HaltedStep
  intro s rest hn hf hr hh
  rw [step_unmarked hn hf hr, hh, if_pos rfl, endStep_eq_ended, ended_of_none (t := haltedNop (fresh s rest)) hf]
  simp only [haltedNop, State.onCpu, State.charge, incR_eq_refreshed, counted_r, fresh, Nat.zero_add]

/-- Settles O49: the state the hook leaves, then the countdown. -/
theorem handledStep : Obligations.HandledStep := by
  unfold Obligations.HandledStep
  intro s rest act later hn hf hr hh hk
  have hc := consulted_of_cons (b := fresh s rest) hk
  refine ⟨ended (consulted (fresh s rest)).2, ?_, ?_⟩
  · rw [step_unmarked hn hf hr, hh, if_neg Bool.false_ne_true, dispatchStep_eq, hc, if_pos rfl, ← endStep_eq_ended]
    rfl
  · have hmark : (consulted (fresh s rest)).2.faultMark = none := by rw [hc]; exact hf
    rw [ended_of_none hmark, hc]
    refine ⟨?_, rfl, rfl, rfl, rfl, rfl, hf, hr, rfl, rfl, rfl, rfl⟩
    have hcycles := counted_cycles (act.cpu.getD s.cpu)
    show ({ counted (act.cpu.getD s.cpu) with cycles := (act.cpu.getD s.cpu).cycles + 0 } : Cpu) = _
    rw [Nat.add_zero, ← hcycles]

end Sys2Proof.Claims
end

section
/-! Interrupts, the EI delay and the marks (spec/60_exceptions.md R703, R706 to R711). -/

namespace Sys2Proof.Claims
open Sys2Proof.Machine

-- The interrupt call by what the record says

section Interrupt

variable {s : State} {data : Byte} {rest : List HostCall}
  (hc : s.calls = .interrupt data :: rest) (hf : s.faultMark = none) (hr : s.refusedMark = none)
include hc hf hr

theorem interrupt_ignored (h : s.cpu.eiDelay ≠ 0 ∨ s.cpu.iff1 = false) : step s = .next (fresh s rest) := by
  rw [step_of_calls_cons hc, perform, interruptCall, unlessMarked_of_none (s := { s with calls := rest }) hf hr]
  show (if s.cpu.eiDelay ≠ 0 then _ else if s.cpu.iff1 = false then _ else _) = _
  by_cases hd : s.cpu.eiDelay ≠ 0
  · rw [if_pos hd]
    rfl
  · rw [if_neg hd, if_pos (h.resolve_left hd)]
    rfl

variable (hd : s.cpu.eiDelay = 0) (hi : s.cpu.iff1 = true)
include hd hi

theorem interrupt_accepted :
    step s =
      match s.cpu.im with
      | .mode0 =>
        if admitted data then andThen (mode0 data (fresh s rest).acknowledge) addCycles
        else .next { fresh s rest with refusedMark := some (.mode0DataNotAdmitted data) }
      | .mode1 => .next (addCycles (fresh s rest).acknowledge.takeMode1)
      | .mode2 => .next (addCycles ((fresh s rest).acknowledge.takeMode2 data)) := by
  rw [step_of_calls_cons hc, perform, interruptCall, unlessMarked_of_none (s := { s with calls := rest }) hf hr]
  show (if s.cpu.eiDelay ≠ 0 then _ else if s.cpu.iff1 = false then _ else _) = _
  rw [if_neg (not_not_intro hd), if_neg (by simp [hi])]
  rfl

theorem interrupt_mode0 (hm : s.cpu.im = .mode0) :
    step s =
      if admitted data then andThen (mode0 data (fresh s rest).acknowledge) addCycles
      else .next { fresh s rest with refusedMark := some (.mode0DataNotAdmitted data) } := by
  rw [interrupt_accepted hc hf hr hd hi, hm]

theorem interrupt_mode1 (hm : s.cpu.im = .mode1) :
    step s = .next (addCycles (fresh s rest).acknowledge.takeMode1) := by
  rw [interrupt_accepted hc hf hr hd hi, hm]

theorem interrupt_mode2 (hm : s.cpu.im = .mode2) :
    step s = .next (addCycles ((fresh s rest).acknowledge.takeMode2 data)) := by
  rw [interrupt_accepted hc hf hr hd hi, hm]

end Interrupt

/-- Settles O50: the call ends before it accepts. -/
theorem ignoredRequests : Obligations.IgnoredRequests := by
  unfold Obligations.IgnoredRequests
  exact fun s data rest hf hr hc h => interrupt_ignored hc hf hr h

-- Modes 1 and 2

/-- What accepting an interrupt does first: a change of the processor record. -/
theorem Trace.acknowledge (s : State) : Trace s s.acknowledge [] := (refl s).onCpu _

/-- The two reads of the table entry in mode 2, after the push. -/
theorem Trace.memRead16_after {s t : State} {xs : List BusAccess} (h : Trace s t xs) (a : Word) :
    Trace s (t.memRead16 a).2 (xs ++ [rdAfter s xs a] ++ [rdAfter s (xs ++ [rdAfter s xs a]) (a + 1)]) :=
  (h.read a).read (a + 1)

theorem Trace.memRead16_fst {s t : State} {xs : List BusAccess} (h : Trace s t xs) (a : Word) :
    (t.memRead16 a).1 = wordOf (answerAfter s (xs ++ [rdAfter s xs a]) (a + 1)) (answerAfter s xs a) := by
  rw [State.memRead16_fst, h.answerAt, (h.read a).answerAt]

/-- Settles O51, by the traces of the push and of the two reads. -/
theorem acceptedModes1And2 : Obligations.AcceptedModes1And2 := by
  unfold Obligations.AcceptedModes1And2
  intro s data rest hf hr hc hd hi pushed entry lo read hi' taken effect
  have hpush : Trace (fresh s rest) ((fresh s rest).acknowledge.push s.cpu.pc) pushed :=
    (Trace.acknowledge _).trans (Trace.push _ _)
  have hport : ((fresh s rest).acknowledge.push s.cpu.pc).portIn = s.portIn := push_portIn _ _
  have hdraws : ((fresh s rest).acknowledge.push s.cpu.pc).draws = s.draws := push_draws _ _
  -- what a call leaves whose accesses and record are known
  have key (target : Word) (cost : Nat) (accesses : List BusAccess) (u : State) (ht : Trace (fresh s rest) u accesses)
      (hu : u.cpu = { (fresh s rest).acknowledge.cpu with sp := s.cpu.sp - 2, pc := target })
      (hstep : step s = .next (addCycles (u.charge cost)))
      (hp : u.portIn = s.portIn) (hdr : u.draws = s.draws) : effect target cost accesses := by
    obtain ⟨hbus, hdelta, hholds, hhost, hfm, hrm, hpa, hca, hho, -⟩ := ht
    refine ⟨_, hstep, ?_, ?_, ?_, hholds, fun hm a => ?_, hhost, hca, hfm.trans hf, hrm.trans hr, hpa, hho, hp, hdr⟩
    · show ({ u.cpu with cycles := u.cpu.cycles + (u.delta + cost) } : Cpu) = _
      rw [hu, hdelta, show (fresh s rest).delta = 0 from rfl, Nat.zero_add]
      rfl
    · exact (congrArg (· + cost) hdelta).trans (Nat.zero_add cost)
    · exact hbus.trans (List.append_nil _)
    · exact (hholds a).trans (by rw [holdsAfter, show (fresh s rest).memHost = [] from hm, cellAfter_nil]; rfl)
  refine ⟨fun hm => ?_, fun hm => ?_⟩
  · refine key _ _ _ _ (hpush.jump 0x0038) ?_ (interrupt_mode1 hc hf hr hd hi hm) hport hdraws
    rw [State.jump, State.onCpu_cpu, push_cpu]
    rfl
  · have hentry : wordOf ((fresh s rest).acknowledge.push s.cpu.pc).cpu.i data &&& 0xFFFE = entry := by
      rw [push_cpu]
      rfl
    have hfst : (((fresh s rest).acknowledge.push s.cpu.pc).memRead16 entry).1 = wordOf hi' lo :=
      hpush.memRead16_fst entry
    refine key _ _ _ _ ((hpush.memRead16_after entry).jump (wordOf hi' lo)) ?_ ?_ hport hdraws
    · show ({ ((fresh s rest).acknowledge.push s.cpu.pc).cpu with pc := wordOf hi' lo } : Cpu) = _
      rw [push_cpu]
      rfl
    · rw [interrupt_mode2 hc hf hr hd hi hm, ← hfst, ← hentry]
      rfl

-- Mode 0

/-- An opcode of one byte is none of the four prefixes. -/
theorem isPrefix_of_length_one {op b1 b2 b3 : Byte} (h : (decodeBytes op b1 b2 b3).2 = 1) : isPrefix op = false := by
  by_contra hp
  obtain ⟨-, ⟨hge, -⟩, -⟩ := decodeBytes_prefixed (by simpa using hp) b1 b2 b3 0 0
  omega

/-- Settles O52: the loop ends at once with the one-byte instruction. -/
theorem acceptedMode0 : Obligations.AcceptedMode0 := by
  unfold Obligations.AcceptedMode0
  intro s data rest hf hr hc hd hi hm opened
  have hstep := interrupt_mode0 hc hf hr hd hi hm
  refine ⟨fun i hdec => ?_, fun hne => ?_⟩
  · have hlen : (decodeBytes data 0 0 0).2 = 1 := by rw [hdec]
    have hopened : (fresh s rest).acknowledge.openMode0 = opened := by
      simp only [State.openMode0, incR_eq_refreshed]
      rfl
    have hfetch : opened.fetchInstr data = (i, opened) :=
      State.fetchInstr_unprefixed (isPrefix_of_length_one hlen) hdec rfl
    have hfall : isFallback i = false := by
      have := isFallback_decodeBytes_iff data 0 0 0
      rw [hdec] at this
      by_contra hi
      have hx := (this.mp (by simpa using hi)).1
      have hp := isPrefix_of_length_one hlen
      rcases hx with rfl | rfl <;> exact absurd hp (by decide)
    rw [if_pos (show admitted data = true from beq_iff_eq.mpr hlen), mode0, hopened, chainBound_eq,
      execPrimary_instr _ (by rw [hfetch]; exact hfall) rfl, hfetch] at hstep
    rw [hstep]
    obtain ⟨t, ht⟩ := exec_next i opened
    rw [ht]
    rfl
  · rwa [if_neg (show ¬ admitted data = true from mt beq_iff_eq.mp hne)] at hstep

-- The EI delay

/-- A step without a hook that runs a one-byte instruction. -/
theorem step_one {s : State} {rest : List HostCall} {i : Instr} (hn : StepNext s rest) (hf : s.faultMark = none)
    (hr : s.refusedMark = none) (hh : s.cpu.halted = false) (hk : s.hook = none)
    (hd : decode [answer s s.cpu.pc] = .ok (i, [])) (hi : isFallback i = false) :
    step s = thenEnd (exec i (begun s rest {} none [])) ended := by
  have hdisp : Dispatches s rest {} none [] := ⟨hn, hf, hr, hh, .inl ⟨hk, rfl, rfl, rfl⟩⟩
  have hfetch := fetchInstr_of_decode (s := begun s rest {} none []) hd rfl
  rw [step_dispatches hdisp, thenEnd_eq_andThen, chainBound_eq, execPrimary_instr _ (by rw [hfetch]; exact hi) rfl,
    hfetch]
  have hp : isPrefix (answer s s.cpu.pc) = false :=
    isPrefix_of_length_one (congrArg Prod.snd (decodeBytes_of_decode hd))
  simp only [fetched, hp, List.length_nil, fetches, Bool.false_eq_true, if_false]

/-- What a step leaves that runs a one-byte instruction without accesses of its own: the record after the countdown,
and memory as the one read leaves it. -/
structure RanOne (s : State) (rest : List HostCall) (u : Cpu) (cost : Nat) (t : State) : Prop where
  cpu : t.cpu = { counted u with cycles := u.cycles + cost }
  answers : ∀ a, answer t a = answerAfter s [rd s s.cpu.pc] a
  calls : t.calls = rest
  hook : t.hook = none
  fault : t.faultMark = none
  refused : t.refusedMark = none

theorem step_one_quiet {s : State} {rest : List HostCall} {i : Instr} {u : Cpu} {k : Nat} (hn : StepNext s rest)
    (hf : s.faultMark = none) (hr : s.refusedMark = none) (hh : s.cpu.halted = false) (hk : s.hook = none)
    (hd : decode [answer s s.cpu.pc] = .ok (i, [])) (hi : isFallback i = false)
    (hrun : Runs i (begun s rest {} none []) u [] k) : ∃ t, step s = .next t ∧ RanOne s rest u k t := by
  obtain ⟨t, ht, hu, -, hdelta, hholds, -, hhost, -, -, hfm, hrm, -, hca, hho, -⟩ := hrun
  have hmark : t.faultMark = none := hfm.trans hf
  have hans (a : Word) : answer t a = answerAfter s [rd s s.cpu.pc] a := by
    have h : answer t a = answer (begun s rest {} none []) a := by
      rw [answer, answerAfter, holdsAfter, hostAfter, cellAfter, hholds, hhost]
      rfl
    exact h.trans ((Trace.memRead s s.cpu.pc).answerAt a)
  have hcost : t.delta = k := hdelta.trans (Nat.zero_add k)
  refine ⟨ended t, ?_, ?_⟩
  · rw [step_one hn hf hr hh hk hd hi, ht]
    rfl
  · rw [ended_of_none hmark]
    exact ⟨by rw [hu, hcost], hans, hca, hho, hmark, hrm.trans hr⟩

theorem counted_two {u : Cpu} (h : u.eiDelay = 2) : counted u = { u with eiDelay := 1 } := by simp [counted, h]

theorem counted_one {u : Cpu} (h : u.eiDelay = 1) :
    counted u = { u with eiDelay := 0, iff1 := true, iff2 := true } := by
  simp [counted, h]

theorem run_succ {M : Host.Core} {s t : M.State} (h : M.step s = .next t) (k : Nat) : M.run (k + 1) s = M.run k t := by
  rw [Host.Core.run, h]

/-- Settles O53, call by call: EI arms the delay, the request is dropped, NOP ends it, the request is taken. -/
theorem enableTakesEffectLate : Obligations.EnableTakesEffectLate := by
  unfold Obligations.EnableTakesEffectLate
  intro s d d' hf hr hk hh hdelay hiff hm h0 h1 hc
  -- EI
  obtain ⟨t1, hs1, cpu1, ans1, calls1, hook1, fault1, refused1⟩ :=
    step_one_quiet (.inl hc) hf hr hh hk (by rw [h0]; rfl) rfl (runs_ei (begun s _ {} none []))
  have hu1 : t1.cpu = { s.cpu with
      pc := s.cpu.pc + 1, r := refreshed s.cpu.r 1, eiDelay := 1, cycles := s.cpu.cycles + 4 } := by
    have hz : (begun s [.interrupt d, .step, .interrupt d'] {} none []).cpu.eiDelay = 0 := hdelay
    rw [cpu1, hz, if_pos rfl, counted_two rfl]
    rfl
  -- the first request
  have hs2 : step t1 = .next (fresh t1 [.step, .interrupt d']) :=
    interrupt_ignored calls1 fault1 refused1 (.inl (by rw [hu1]; exact (by decide : (1 : Fin 3) ≠ 0)))
  -- NOP
  have hop : answer (fresh t1 [.step, .interrupt d']) t1.cpu.pc = 0x00 := by
    rw [← h1, ← ans1, hu1]
    rfl
  obtain ⟨t3, hs3, cpu3, -, calls3, -, fault3, refused3⟩ :=
    step_one_quiet (s := fresh t1 [.step, .interrupt d']) (rest := [.interrupt d']) (i := .nop) (.inl rfl)
      fault1 refused1 (by rw [show (fresh t1 [.step, .interrupt d']).cpu = t1.cpu from rfl, hu1]; exact hh) hook1
      (by rw [show (fresh t1 [.step, .interrupt d']).cpu = t1.cpu from rfl, hop]; rfl) rfl (runs_done rfl)
  have hu3 : t3.cpu = { s.cpu with
      pc := s.cpu.pc + 2, r := refreshed (refreshed s.cpu.r 1) 1, eiDelay := 0, iff1 := true, iff2 := true,
      cycles := s.cpu.cycles + 8 } := by
    have hb : (begun (fresh t1 [.step, .interrupt d']) [.interrupt d'] {} none []).cpu =
        { t1.cpu with pc := t1.cpu.pc + 1, r := refreshed t1.cpu.r 1 } := rfl
    rw [cpu3, hb, hu1, counted_one rfl, add_one_add_one]
  -- the second request
  obtain ⟨h51, -⟩ := acceptedModes1And2 t3 d' [] fault3 refused3 calls3 (by rw [hu3]) (by rw [hu3])
  obtain ⟨t, hs4, cpu4, -, bus4, -⟩ := h51 (by rw [hu3]; exact hm)
  refine ⟨t, ?_, ?_, ?_, ?_, ?_, ?_⟩
  · calc core.run 4 s = core.run 3 t1 := run_succ (M := core) hs1 3
      _ = core.run 2 (fresh t1 [.step, .interrupt d']) := run_succ (M := core) hs2 2
      _ = core.run 1 t3 := run_succ (M := core) (s := fresh t1 [.step, .interrupt d']) (t := t3) hs3 1
      _ = core.run 0 t := run_succ (M := core) (s := t3) (t := t) hs4 0
  · rw [cpu4]
  · rw [cpu4, hu3]
  · rw [bus4, hu3]
  · rw [cpu4]
  · rw [cpu4, hu3]

-- Marks

/-- A mark answers a step or an interrupt call with its recorded outcome. -/
theorem unlessMarked_of_marked (s : State) (call : State → Res) :
    (∀ r, s.faultMark = some r → unlessMarked s call = .fault (.illegalOpcode r)) ∧
      (∀ r, s.faultMark = none → s.refusedMark = some r → unlessMarked s call = .refused r) := by
  refine ⟨fun r hf => ?_, fun r hf hr => ?_⟩
  · simp only [unlessMarked, hf]
  · simp only [unlessMarked, hf, hr]

/-- Settles O54: each call but reset looks at the marks first. -/
theorem marksAreSticky : Obligations.MarksAreSticky := by
  unfold Obligations.MarksAreSticky
  refine fun s rest => ⟨fun h => ?_, fun h => ?_⟩
  · obtain h | h | ⟨data, h⟩ := h
    · rw [step_of_stepNext (rest := []) (.inr ⟨h, rfl⟩)]
      exact unlessMarked_of_marked { s with calls := [] } _
    · rw [step_of_stepNext (.inl h)]
      exact unlessMarked_of_marked { s with calls := rest } _
    · rw [step_of_calls_cons h, perform, interruptCall]
      exact unlessMarked_of_marked { s with calls := rest } _
  · exact ⟨_, step_of_calls_reset h, rfl, rfl, rfl, rfl, rfl, rfl, rfl⟩

end Sys2Proof.Claims
end
